-- ==== Sys2Proof/Word.lean ====
section
/-! DEFINITION. The word types of AMC (00_scope.md R18; 10_state.md R20; 30_encoding.md R80). -/

namespace Sys2Proof

/-- One byte: a cell of RX, TX and the register bus (20_memory.md R62, R69). -/
abbrev Byte := BitVec 8

/-- The 16-bit registers, samples and response data (10_state.md R20, 30_encoding.md R84). -/
abbrev Word16 := BitVec 16

/-- A command word (30_encoding.md R80). -/
abbrev CmdWord := BitVec 32

end Sys2Proof
end

