-- ==== Sys2Proof/Syntax.lean ====
section
/-! DEFINITION. The fifteen commands (30_encoding.md R82), one constructor per row of
spec/opcode_table.json. Operands are integers, as R81 says ("`a` is always an unsigned integer
0 to 255 ... a two's-complement signed integer" in MAPI); WellFormed.lean holds their ranges. -/

namespace Sys2Proof

inductive Instr where
  /-- NOP (40_host_access.md R111). -/
  | nop
  /-- RDREG a (R112): a = register index. -/
  | rdreg (a : Nat)
  /-- WRREG a, imm (R113): a = register index, imm = value. -/
  | wrreg (a imm : Nat)
  /-- RXWR a, byte (R114): a = RX address. -/
  | rxwr (a byte : Nat)
  /-- TXRD a (R115): a = TX address. -/
  | txrd (a : Nat)
  /-- TACK (R116). -/
  | tack
  /-- ACQ (41_acquisition.md R133). -/
  | acq
  /-- ENC with_seq, seq (43_frame.md R173). -/
  | enc (withSeq : Bool) (seq : Nat)
  /-- DEC (43_frame.md R179). -/
  | dec
  /-- MAPV f (42_mapping.md R155): f = finger index. -/
  | mapv (f : Nat)
  /-- MAPI f, v (42_mapping.md R156): v a signed value. -/
  | mapi (f : Nat) (v : Int)
  /-- PWMINIT hz (44_pwm.md R203). -/
  | pwminit (hz : Nat)
  /-- PWMSET c, us (44_pwm.md R216): c = PWM channel. -/
  | pwmset (c us : Nat)
  /-- PWMSETR f (44_pwm.md R217): f = finger index. -/
  | pwmsetr (f : Nat)
  /-- APPLY (45_pipeline.md R241). -/
  | apply
deriving DecidableEq, Repr

end Sys2Proof
end

