-- ==== Sys2Proof/WellFormed.lean ====
section
/-! DEFINITION. The operand ranges a command word can carry (30_encoding.md R81, R82). A value that a
row's mask allows but the command refuses (a finger above 4, hz = 0) is well formed: it decodes, and
the command's rule gives the status (R83). -/

namespace Sys2Proof

/-- Operand `a`, bits 23:16: 0 to 255 (R81). -/
def okA (a : Nat) : Bool := decide (a < 256)

/-- Operand `imm`, bits 15:0, unsigned: 0 to 65535 (R81). -/
def okImm (n : Nat) : Bool := decide (n < 65536)

/-- A byte in imm[7:0] with imm[15:8] = 0 (R82, R83). -/
def okByte (n : Nat) : Bool := decide (n < 256)

/-- MAPI's `imm`: -32768 to 32767 (R81). -/
def okSigned (v : Int) : Bool := decide (-32768 ≤ v) && decide (v ≤ 32767)

/-- The command can be written as a command word. -/
def Instr.wf : Instr → Bool
  | .nop => true
  | .rdreg a => okA a
  | .wrreg a imm => okA a && okImm imm
  | .rxwr a byte => okA a && okByte byte
  | .txrd a => okA a
  | .tack => true
  | .acq => true
  | .enc _ seq => okByte seq
  | .dec => true
  | .mapv f => okA f
  | .mapi f v => okA f && okSigned v
  | .pwminit hz => okImm hz
  | .pwmset c us => okA c && okImm us
  | .pwmsetr f => okA f
  | .apply => true

end Sys2Proof
end

