-- ==== Sys2Proof/Decode.lean ====
section
/-! DEFINITION. Decoding a command word by the opcode map (30_encoding.md R80 to R83), and the encoder
(R87). A word that no row selects is refused by name; the machine ends it with ILLEGAL_CMD. -/

namespace Sys2Proof

/-- The rows of the opcode map (30_encoding.md R82). -/
inductive Opcode where
  | nop | rdreg | wrreg | rxwr | txrd | tack | acq | enc | dec | mapv | mapi
  | pwminit | pwmset | pwmsetr | apply
deriving DecidableEq, Repr

/-- The rows, in the table's order. -/
def opcodes : List Opcode :=
  [.nop, .rdreg, .wrreg, .rxwr, .txrd, .tack, .acq, .enc, .dec, .mapv, .mapi,
   .pwminit, .pwmset, .pwmsetr, .apply]

/-- Column `match` (R82). -/
def Opcode.pattern : Opcode → CmdWord
  | .nop     => 0x00000000
  | .rdreg   => 0x01000000
  | .wrreg   => 0x02000000
  | .rxwr    => 0x03000000
  | .txrd    => 0x04000000
  | .tack    => 0x05000000
  | .acq     => 0x10000000
  | .enc     => 0x20000000
  | .dec     => 0x21000000
  | .mapv    => 0x30000000
  | .mapi    => 0x31000000
  | .pwminit => 0x40000000
  | .pwmset  => 0x41000000
  | .pwmsetr => 0x42000000
  | .apply   => 0x50000000

/-- Column `mask` (R82). -/
def Opcode.mask : Opcode → CmdWord
  | .nop     => 0xFFFFFFFF
  | .rdreg   => 0xFF00FFFF
  | .wrreg   => 0xFF000000
  | .rxwr    => 0xFF00FF00
  | .txrd    => 0xFF00FFFF
  | .tack    => 0xFFFFFFFF
  | .acq     => 0xFFFFFFFF
  | .enc     => 0xFFFEFF00
  | .dec     => 0xFFFFFFFF
  | .mapv    => 0xFF00FFFF
  | .mapi    => 0xFF000000
  | .pwminit => 0xFFFF0000
  | .pwmset  => 0xFF000000
  | .pwmsetr => 0xFF00FFFF
  | .apply   => 0xFFFFFFFF

/-- "a word w selects the row when `w AND mask = match`" (R82). -/
def Opcode.selects (o : Opcode) (w : CmdWord) : Bool := w &&& o.mask == o.pattern

/-- Field op, bits 31:24 (R80). -/
def fieldOp (w : CmdWord) : Byte := w.extractLsb' 24 8

/-- Field a, bits 23:16, unsigned (R80, R81). -/
def fieldA (w : CmdWord) : Nat := (w.extractLsb' 16 8).toNat

/-- Field imm, bits 15:0, unsigned (R80, R81). -/
def fieldImm (w : CmdWord) : Nat := (w.extractLsb' 0 16).toNat

/-- Field imm of MAPI: `sext` of bits 15:0 (R81). -/
def fieldImmSigned (w : CmdWord) : Int := (w.extractLsb' 0 16).toInt

/-- The byte imm[7:0] of RXWR and ENC (R82). -/
def fieldByte (w : CmdWord) : Nat := (w.extractLsb' 0 8).toNat

/-- a[0], the flag with_seq of ENC (R82). -/
def fieldWithSeq (w : CmdWord) : Bool := w.getLsbD 16

/-- The command a row stands for, its operands taken from the word (R81, R82). -/
def Opcode.build (o : Opcode) (w : CmdWord) : Instr :=
  match o with
  | .nop     => .nop
  | .rdreg   => .rdreg (fieldA w)
  | .wrreg   => .wrreg (fieldA w) (fieldImm w)
  | .rxwr    => .rxwr (fieldA w) (fieldByte w)
  | .txrd    => .txrd (fieldA w)
  | .tack    => .tack
  | .acq     => .acq
  | .enc     => .enc (fieldWithSeq w) (fieldByte w)
  | .dec     => .dec
  | .mapv    => .mapv (fieldA w)
  | .mapi    => .mapi (fieldA w) (fieldImmSigned w)
  | .pwminit => .pwminit (fieldImm w)
  | .pwmset  => .pwmset (fieldA w) (fieldImm w)
  | .pwmsetr => .pwmsetr (fieldA w)
  | .apply   => .apply

/-- Why a word is illegal (R83). -/
inductive DecodeError where
  /-- "its op is not one of the fifteen opcodes". -/
  | unknownOpcode (op : Byte)
  /-- "a bit that the row's mask covers is not 0 (a reserved operand bit is set)". -/
  | reservedBits (o : Opcode)
deriving DecidableEq, Repr

/-- The name of the reason a word that no row selects is illegal (R83). -/
def decodeError (w : CmdWord) : DecodeError :=
  match opcodes.find? (fun o => o.pattern.extractLsb' 24 8 == fieldOp w) with
  | some o => .reservedBits o
  | none => .unknownOpcode (fieldOp w)

/-- Decoding, total: the command of the row the word selects, or the reason it is illegal. -/
def decode (w : CmdWord) : Except DecodeError Instr :=
  match opcodes.find? (fun o => o.selects w) with
  | some o => .ok (o.build w)
  | none => .error (decodeError w)

/-- The host's reading of the decoder: one word of 32 bits, numbered as the table numbers it
(30_encoding.md R62(3), R80: the command word has no byte order of its own). -/
def decodeTableWord (nbits w : Nat) : Option Instr :=
  (decode (BitVec.ofNat 32 (w % 2 ^ nbits))).toOption

/-- "Encoding is `op << 24 | a << 16 | imm`" (R87). -/
def commandWord (op a imm : Nat) : CmdWord :=
  BitVec.ofNat 32 op <<< 24 ||| BitVec.ofNat 32 a <<< 16 ||| BitVec.ofNat 32 imm

/-- The command word of a command (R82, R87): "with imm taken modulo 65536 for a negative MAPI
value". -/
def encode : Instr → CmdWord
  | .nop          => commandWord 0x00 0 0
  | .rdreg a      => commandWord 0x01 a 0
  | .wrreg a imm  => commandWord 0x02 a imm
  | .rxwr a byte  => commandWord 0x03 a byte
  | .txrd a       => commandWord 0x04 a 0
  | .tack         => commandWord 0x05 0 0
  | .acq          => commandWord 0x10 0 0
  | .enc ws seq   => commandWord 0x20 ws.toNat seq
  | .dec          => commandWord 0x21 0 0
  | .mapv f       => commandWord 0x30 f 0
  | .mapi f v     => commandWord 0x31 f (v % 65536).toNat
  | .pwminit hz   => commandWord 0x40 0 hz
  | .pwmset c us  => commandWord 0x41 c us
  | .pwmsetr f    => commandWord 0x42 f 0
  | .apply        => commandWord 0x50 0 0

end Sys2Proof
end

