-- ==== Sys2Proof/Config.lean ====
section
/-! DEFINITION. The build-time parameters of AMC (00_scope.md R10 to R12), their constraints, the
configuration of the machine after reset, the test configuration TC1, and the free values. -/

namespace Sys2Proof

/-- The parameters of 00_scope.md R10, R11, R12. "The model takes it as an argument": the argument
is the field `cfg` of State (log 1). The constants of R9 are no parameters and are written out. -/
structure Config where
  /-- VMAX, top of the channel-value range; 8 bits say 0 to 255 (R10). -/
  vmax : Byte
  /-- FLOOR, the sensor floor; 8 bits say 0 to 255 (R10). -/
  floor : Byte
  /-- INVERT_ALL (R10). -/
  invertAll : Bool
  /-- CH_INVERT[0..4] (R10). -/
  chInvert : Vector Bool 5
  /-- OSC_HZ, oscillator of the PWM chip (R10). -/
  oscHz : Nat
  /-- PULSE_MIN_US (R11). -/
  pulseMinUs : Word16
  /-- PULSE_MAX_US (R11). -/
  pulseMaxUs : Word16
  /-- DRV_MIN_US (R11). -/
  drvMinUs : Word16
  /-- DRV_MAX_US (R11). -/
  drvMaxUs : Word16
  /-- FRAME_MAX, bytes of RX (R11). -/
  frameMax : Nat
  /-- CLK_HZ (R12); it enters only the defaults of SETTLE_RESET and OSC_STAB_CYCLES. -/
  clkHz : Nat
  /-- SETTLE_RESET (R12). -/
  settleReset : Word16
  /-- T_SETTLE_MIN, a property of the mux and sensors (R12). -/
  tSettleMin : Nat
  /-- RAW_MIN_RESET (R12). -/
  rawMinReset : Word16
  /-- RAW_MAX_RESET (R12). -/
  rawMaxReset : Word16
  /-- OSC_STAB_CYCLES (R12). -/
  oscStabCycles : Nat
  /-- DEV_ADDR (R12). -/
  devAddr : BitVec 7
  /-- REG_MODE1 (R12). -/
  regMode1 : Byte
  /-- REG_PRESCALE (R12). -/
  regPrescale : Byte
  /-- REG_CH_BASE (R12). -/
  regChBase : Byte
  /-- MODE1_SLEEP (R12). -/
  mode1Sleep : Byte
  /-- MODE1_AI (R12). -/
  mode1Ai : Byte
  /-- SERVO_CH[0..4], each 0 to 15 (R12). -/
  servoCh : Vector (Fin 16) 5
  /-- TX_SIZE, bytes of TX (R12). -/
  txSize : Nat
deriving DecidableEq, Repr

/-- A mask with exactly one bit set. -/
def singleBit (m : Byte) : Bool :=
  [0x01#8, 0x02#8, 0x04#8, 0x08#8, 0x10#8, 0x20#8, 0x40#8, 0x80#8].contains m

/-- The constraints the spec puts on the parameters (00_scope.md R10, R11, R12 and the sentence
after R12's table). That TX holds the longest encoded frame, 25 bytes, is DEDUCED from
43_frame.md R174 (log 3). -/
abbrev Config.Valid (c : Config) : Prop :=
  1 ≤ c.oscHz ∧ c.pulseMinUs.toNat ≤ c.pulseMaxUs.toNat ∧ c.drvMinUs.toNat ≤ c.drvMaxUs.toNat ∧
  64 ≤ c.frameMax ∧ c.frameMax ≤ 128 ∧ c.regChBase.toNat + 4 * 15 + 3 ≤ 255 ∧
  singleBit c.mode1Sleep = true ∧ singleBit c.mode1Ai = true ∧ c.mode1Sleep ≠ c.mode1Ai ∧
  25 ≤ c.txSize

/-- The whole number of clock cycles that lasts at least `us` microseconds at `hz`:
ceil(us * hz / 1000000), the form of the two defaults of 00_scope.md R12. -/
def cyclesOfMicros (us hz : Nat) : Nat := (us * hz + 999999) / 1000000

/-! ### Free values

Constants with no body: nothing can evaluate them, so a claim that mentions one holds whatever it is. -/

/-- Free: from it comes CLK_HZ, which the spec leaves OPEN (log 2). -/
opaque Config.freeClkHz : Nat
/-- Free: T_SETTLE_MIN, OPEN (log 2). -/
opaque Config.freeSettleMin : Nat
/-- Free: PULSE_MIN_US, OPEN (log 2). -/
opaque Config.freePulseMin : Word16
/-- Free: from it comes PULSE_MAX_US, OPEN (log 2). -/
opaque Config.freePulseMax : Word16
/-- Free: DRV_MIN_US, OPEN (log 2). -/
opaque Config.freeDrvMin : Word16
/-- Free: from it comes DRV_MAX_US, OPEN (log 2). -/
opaque Config.freeDrvMax : Word16
/-- Free: from it comes FRAME_MAX, OPEN (log 2). -/
opaque Config.freeFrameMax : Nat
/-- Free: the sample drawn as the n-th oracle answer (20_memory.md R67; log 7). -/
opaque Config.freeSample : Nat → Word16
/-- Free: whether the n-th oracle answer, a bus transaction's, is OK (20_memory.md R66; log 7). -/
opaque Config.freeBusOk : Nat → Bool
/-- Free: the byte the n-th oracle answer, a bus read's, carries (20_memory.md R66; log 7). -/
opaque Config.freeBusByte : Nat → Byte

/-- The clock frequency: 1 Hz to 1310700000 Hz, the frequencies at which the default of
SETTLE_RESET fits its 16 bits; DEDUCED (log 2). -/
def Config.machineClkHz : Nat := 1 + Config.freeClkHz % 1310700000

/-- The machine's own configuration: the canonical values of 00_scope.md R10 and the defaults of
R12 where the spec gives one, free values within the constraints where it leaves the parameter
OPEN (log 2). -/
def Config.machine : Config where
  vmax := 9
  floor := 2
  invertAll := true
  chInvert := #v[false, false, false, false, true]
  oscHz := 25000000
  pulseMinUs := Config.freePulseMin
  pulseMaxUs := if Config.freePulseMin.toNat ≤ Config.freePulseMax.toNat
    then Config.freePulseMax else Config.freePulseMin
  drvMinUs := Config.freeDrvMin
  drvMaxUs := if Config.freeDrvMin.toNat ≤ Config.freeDrvMax.toNat
    then Config.freeDrvMax else Config.freeDrvMin
  frameMax := 64 + Config.freeFrameMax % 65
  clkHz := Config.machineClkHz
  settleReset := BitVec.ofNat 16 (cyclesOfMicros 50 Config.machineClkHz)
  tSettleMin := Config.freeSettleMin
  rawMinReset := 0
  rawMaxReset := 0
  oscStabCycles := cyclesOfMicros 500 Config.machineClkHz
  devAddr := 0x40
  regMode1 := 0x00
  regPrescale := 0xFE
  regChBase := 0x06
  mode1Sleep := 0x10
  mode1Ai := 0x20
  servoCh := #v[0, 1, 2, 3, 4]
  txSize := 32

/-- The test configuration TC1 of 95_test_vectors.md: test data, "not a claim about the original
hardware". The spec gives no T_SETTLE_MIN there; 50 cycles is this model's choice of test data. -/
def Config.tc1 : Config where
  vmax := 9
  floor := 2
  invertAll := true
  chInvert := #v[false, false, false, false, true]
  oscHz := 25000000
  pulseMinUs := 500
  pulseMaxUs := 2500
  drvMinUs := 500
  drvMaxUs := 2500
  frameMax := 64
  clkHz := 1000000
  settleReset := 50
  tSettleMin := 50
  rawMinReset := 0
  rawMaxReset := 0
  oscStabCycles := 500
  devAddr := 0x40
  regMode1 := 0x00
  regPrescale := 0xFE
  regChBase := 0x06
  mode1Sleep := 0x10
  mode1Ai := 0x20
  servoCh := #v[0, 1, 2, 3, 4]
  txSize := 32

end Sys2Proof
end

