-- ==== Sys2Proof/Machine/State.lean ====
section
/-! DEFINITION. The state of AMC (10_state.md R20), every element of it, beside the model's own fields:
the configuration and the outside world. Reset (R41). Plain data throughout. -/

namespace Sys2Proof.Machine

/-- The names of the 8-bit statuses (60_exceptions.md R250). -/
inductive Status where
  | ok | skipped | busFail | badHeader | badCount | badToken | tooLong | badChannel | badOperand
  | noData | badAddr | readOnly | illegalCmd | badPhase
deriving DecidableEq, Repr, Inhabited

/-- PHASE (10_state.md R30). "3 never occurs", so it has no name (log 12). -/
inductive Phase where
  | uninit | ready | dead
deriving DecidableEq, Repr, Inhabited

/-- The observable events (30_encoding.md R86). -/
inductive Event where
  /-- `Sel(v)`: the select lines are driven with v. -/
  | sel (v : BitVec 3)
  /-- `Wait(n)`: at least n clock cycles pass. -/
  | wait (n : Nat)
  /-- `Sample() -> r`. -/
  | sample (r : Word16)
  /-- `BusRead(dev, reg) -> b or FAIL`; `none` is FAIL. -/
  | busRead (dev : BitVec 7) (reg : Byte) (answer : Option Byte)
  /-- `BusWrite(dev, reg, bytes) -> OK or FAIL`. -/
  | busWrite (dev : BitVec 7) (reg : Byte) (bytes : List Byte) (ok : Bool)
  /-- `Rsp(status, data)`. -/
  | rsp (status : Status) (data : Word16)
  /-- `Tick`, the tick source's. -/
  | tick
deriving DecidableEq, Repr

/-- The bus target's answer to one transaction: the lines bus_ok and bus_rdata (30_encoding.md R85;
20_memory.md R66). -/
structure BusReply where
  ok : Bool
  rdata : Byte
deriving DecidableEq, Repr, Inhabited

/-- What the acquisition environment has ready for one conversion: what each of the eight mux inputs
carries then, and what the converter answers if the mux has not settled (20_memory.md R67; log 8). -/
structure Conversion where
  inputs : Vector Word16 8
  ghost : Word16
deriving DecidableEq, Repr, Inhabited

/-- One input from the outside world (log 5, log 10). -/
inductive Input where
  /-- The host offers a command word (30_encoding.md R85). -/
  | cmd (w : CmdWord)
  /-- A tick arrives between two commands (60_exceptions.md R258). -/
  | tick
  /-- `rst` between two commands (70_reset_and_hazards.md R280). -/
  | rst
  /-- The host offers a command word and `rst` strikes when n of its events, its response not among
  them, have occurred (R281). -/
  | cmdCut (w : CmdWord) (n : Nat)
deriving DecidableEq, Repr

/-- The outside world as the step sees it. None of it is a register of AMC. -/
structure Env where
  /-- Coming inputs, the next one first (log 5). -/
  input : List Input
  /-- For each coming event of a command, how many ticks arrive just before it (log 6). -/
  ticks : List Nat
  /-- Coming conversions, the next one first (log 7, log 8). -/
  conversions : List Conversion
  /-- Coming answers of the bus target, the next one first (log 7). -/
  busReplies : List BusReply
  /-- Oracle answers drawn so far: the argument of the free values (log 7). -/
  drawn : Nat
  /-- Clock cycles known to have passed since the select lines last changed (20_memory.md R67; log 8). -/
  settledFor : Nat
  /-- The events so far, oldest first (30_encoding.md R86; log 9). -/
  trace : List Event
deriving DecidableEq, Repr

/-- A byte memory: (address, byte) pairs, addresses strictly rising, no byte 0x00. An address not
listed reads as 0x00, the reset contents the spec gives (10_state.md R34, R41). -/
abbrev Memory := List Host.Cell

/-- The complete state of one AMC instance (10_state.md R20), and the model's own `cfg` and `env`. -/
structure State where
  /-- The build-time parameters; no step writes them (00_scope.md R14; log 1). -/
  cfg : Config
  /-- READING[0..4] (R21). -/
  reading : Vector Byte 5
  /-- READV[0..4] (R21). -/
  readv : Vector Bool 5
  /-- VAL[0..4] (R22). -/
  val : Vector Byte 5
  /-- VALV (R22). -/
  valv : Bool
  /-- SEQ (R23). -/
  seq : Byte
  /-- SEQV (R23). -/
  seqv : Bool
  /-- PULSE[0..4], microseconds (R24). -/
  pulse : Vector Word16 5
  /-- PULSEV[0..4] (R24). -/
  pulsev : Vector Bool 5
  /-- DUTY[0..15] (R25). -/
  duty : Vector (BitVec 12) 16
  /-- DUTYV[0..15] (R25). -/
  dutyv : Vector Bool 16
  /-- RAW_MIN (R26). -/
  rawMin : Word16
  /-- RAW_MAX (R26). -/
  rawMax : Word16
  /-- SETTLE, clock cycles (R27). -/
  settle : Word16
  /-- SEL, the select lines (R28). -/
  sel : BitVec 3
  /-- FREQ, Hz; 0 is the uninitialised sentinel (R29). -/
  freq : Word16
  /-- PHASE (R30). -/
  phase : Phase
  /-- TICK (R31). -/
  tick : Bool
  /-- RXLEN (R32). -/
  rxlen : Byte
  /-- TXLEN (R33). -/
  txlen : Byte
  /-- RXBUF, the space RX (R34, 20_memory.md R60). -/
  rx : Memory
  /-- TXBUF, the space TX (R34, 20_memory.md R60). -/
  tx : Memory
  /-- BUSY (R38). -/
  busy : Bool
  /-- The outside world (log 5 to log 9). -/
  env : Env
deriving DecidableEq, Repr

/-- Faults: none. "AMC has no trap, no abort and no halt" (00_scope.md R15); every failure is a status
(60_exceptions.md R250, R251), so no constructor stands here and no step can fault. Safe: there is
nothing the hardware stops on that the model runs through, since the spec names no such thing. -/
inductive Fault where
deriving DecidableEq, Repr

/-- Refusals. -/
inductive Refusal where
  /-- Raised by `exec`'s arm of an instruction that has no meaning yet, and by nothing else; safe.
  No arm is left that raises it. -/
  | notModelled (mnemonic : String)
deriving DecidableEq, Repr

/-- The outside world with nothing coming and nothing seen yet (log 5 to log 9). -/
def Env.silent : Env :=
  ⟨[], [], [], [], 0, 0, []⟩

/-- Every element of 10_state.md R20 at the value of R41, for a machine built with `c` and the
outside world `e`. The registers R41 gives "no value" hold 0 (DESIGN CHOICE, log 4). -/
def State.resetWith (c : Config) (e : Env) : State where
  cfg := c
  reading := Vector.replicate 5 0
  readv := Vector.replicate 5 false
  val := Vector.replicate 5 0
  valv := false
  seq := 0
  seqv := false
  pulse := Vector.replicate 5 0
  pulsev := Vector.replicate 5 false
  duty := Vector.replicate 16 0
  dutyv := Vector.replicate 16 false
  rawMin := c.rawMinReset
  rawMax := c.rawMaxReset
  settle := c.settleReset
  sel := 0
  freq := 0
  phase := .uninit
  tick := false
  rxlen := 0
  txlen := 0
  rx := []
  tx := []
  busy := false
  env := e

/-- The machine right after reset (10_state.md R41, 70_reset_and_hazards.md R280). -/
def State.reset : State := State.resetWith Config.machine Env.silent

end Sys2Proof.Machine
end

