-- ==== Sys2Proof/Machine/Arith.lean ====
section
/-! DEFINITION. The arithmetic of 00_scope.md R19 on unbounded integers (R18): clamp, rdiv, dec. -/

namespace Sys2Proof.Machine

/-- `clamp(x, lo, hi)` (R19). -/
def clamp {α : Type} [LT α] [DecidableLT α] (x lo hi : α) : α :=
  if x < lo then lo else if hi < x then hi else x

/-- `rdiv(a, b)`, nearest, ties to even (R19). Used with b > 0 only. -/
def rdiv (a b : Nat) : Nat :=
  let q := a / b
  let r := a % b
  if 2 * r > b then q + 1
  else if 2 * r < b then q
  else if q % 2 = 0 then q else q + 1

/-- The ASCII byte of the decimal digit `d`. -/
def digitByte (d : Nat) : Byte := BitVec.ofNat 8 (0x30 + d)

/-- `dec(n)` for 0 to 255: the decimal digits, most significant first, no leading zero (R19). -/
def decDigits (n : Nat) : List Byte :=
  if n < 10 then [digitByte n]
  else if n < 100 then [digitByte (n / 10), digitByte (n % 10)]
  else [digitByte (n / 100), digitByte (n / 10 % 10), digitByte (n % 10)]

end Sys2Proof.Machine
end

