-- ==== Sys2Proof/Machine/Ops.lean ====
section
/-! DEFINITION. The named operations of the pseudocode over memory and the outside world (00_scope.md
R19): MemRead, MemWrite, Sel, Wait, Sample, BusRead, BusWrite, done, raise. -/

namespace Sys2Proof.Machine

/-! ### RX and TX (20_memory.md R60, R61) -/

/-- `MemRead`: the byte at an address; 0x00 where nothing is listed (10_state.md R41). -/
def Memory.read : Memory → Nat → Byte
  | [], _ => 0
  | (x, b) :: m, a => if a = x then b else Memory.read m a

/-- `MemWrite`, keeping the canonical form: rising addresses, and no byte 0x00 listed. -/
def Memory.write : Memory → Nat → Byte → Memory
  | [], a, v => if v = 0 then [] else [(a, v)]
  | (x, b) :: m, a, v =>
    if a < x then if v = 0 then (x, b) :: m else (a, v) :: (x, b) :: m
    else if a = x then if v = 0 then m else (a, v) :: m
    else (x, b) :: Memory.write m a v

/-- Bytes stored at ascending addresses from `a` (43_frame.md R173). -/
def Memory.writeBytes : Memory → Nat → List Byte → Memory
  | m, _, [] => m
  | m, a, b :: bs => Memory.writeBytes (m.write a b) (a + 1) bs

/-- The `n` bytes from address 0 up (43_frame.md R179). -/
def Memory.firstBytes (m : Memory) (n : Nat) : List Byte := (List.range n).map m.read

/-- The canonical form. -/
def Memory.wf : Memory → Bool
  | [] => true
  | (a, b) :: m => b != 0 && m.all (fun c => decide (a < c.1)) && Memory.wf m

/-- Every listed address lies in a space of `n` bytes (20_memory.md R60). -/
def Memory.within (n : Nat) (m : Memory) : Bool := m.all (fun c => decide (c.1 < n))

/-! ### Events and ticks (30_encoding.md R86; 10_state.md R31) -/

/-- How many ticks arrive just before the next event of a command (log 6). -/
def Env.ticksNow (e : Env) : Nat := e.ticks.headD 0

/-- The trace grown by the ticks that arrive now and then by an event. -/
def Env.record (ev : Event) (e : Env) : Env :=
  { e with ticks := e.ticks.tail
           trace := e.trace ++ List.replicate e.ticksNow .tick ++ [ev] }

/-- One event of the running command. Ticks may arrive just before it and set TICK: "The tick
source's `Tick` event may fall between any two events" (R86). -/
def State.emit (ev : Event) (s : State) : State :=
  { s with tick := s.tick || decide (0 < s.env.ticksNow)
           env := s.env.record ev }

/-! ### Mux and converter (41_acquisition.md R132, R133; 20_memory.md R67) -/

/-- `Sel(v)`: SEL <- v and the lines carry v. The time since the lines last changed starts again
only if they change (R133: "`Sel(0)` changes nothing, which only lengthens the settled time"). -/
def State.select (v : BitVec 3) (s : State) : State :=
  State.emit (.sel v)
    { s with sel := v
             env := { s.env with settledFor := if s.sel = v then s.env.settledFor else 0 } }

/-- `Wait(n)`: at least n clock cycles pass. -/
def State.waitCycles (n : Nat) (s : State) : State :=
  State.emit (.wait n) { s with env := { s.env with settledFor := s.env.settledFor + n } }

/-- The value the converter answers: the selected input's if the mux is known to have settled,
else an unconstrained one (20_memory.md R67). -/
def Env.sampleValue (settleMin : Nat) (sel : BitVec 3) (e : Env) : Word16 :=
  match e.conversions with
  | [] => Config.freeSample e.drawn
  | c :: _ => if settleMin ≤ e.settledFor then c.inputs[sel.toFin] else c.ghost

/-- `Sample()`: one conversion. -/
def State.sample (s : State) : Word16 × State :=
  let r := s.env.sampleValue s.cfg.tSettleMin s.sel
  (r, State.emit (.sample r)
    { s with env := { s.env with conversions := s.env.conversions.tail
                                 drawn := s.env.drawn + 1 } })

/-! ### The register bus (20_memory.md R64 to R66) -/

/-- The bus target's answer to the next transaction: "a free draw at every transaction" (R66). -/
def Env.busReply (e : Env) : BusReply :=
  match e.busReplies with
  | [] => ⟨Config.freeBusOk e.drawn, Config.freeBusByte e.drawn⟩
  | r :: _ => r

/-- The answer of the next transaction is used up. -/
def State.dropBusReply (s : State) : State :=
  { s with env := { s.env with busReplies := s.env.busReplies.tail, drawn := s.env.drawn + 1 } }

/-- `BusRead(DEV_ADDR, reg)`: a byte, or FAIL (`none`) (R64). -/
def State.busRead (reg : Byte) (s : State) : Option Byte × State :=
  let r := s.env.busReply
  let answer := if r.ok then some r.rdata else none
  (answer, State.emit (.busRead s.cfg.devAddr reg answer) s.dropBusReply)

/-- `BusWrite(DEV_ADDR, reg, bytes)`: OK (`true`) or FAIL (R65). -/
def State.busWrite (reg : Byte) (bytes : List Byte) (s : State) : Bool × State :=
  let ok := s.env.busReply.ok
  (ok, State.emit (.busWrite s.cfg.devAddr reg bytes ok) s.dropBusReply)

/-! ### The end of a command (00_scope.md R19; 60_exceptions.md R250, R251, R254)

AMC has no trap: what an exception's entry is elsewhere is here the one operation `raise`, which
ends the command with a status, and what a return from one is elsewhere is nothing at all: "there is
nothing to return from" (R254). -/

/-- The response: `Rsp(status, data)` is given and BUSY falls (10_state.md R38; 30_encoding.md R84). -/
def State.respond (st : Status) (data : Word16) (s : State) : State :=
  { State.emit (.rsp st data) s with busy := false }

/-- `done(d)`: status OK and response data d (R19). -/
def State.done (data : Word16) (s : State) : State := s.respond .ok data

/-- `raise <STATUS>(d)`: "state written by earlier lines stays written, nothing else is written"
(R19); control goes nowhere (R251). -/
def State.raise (st : Status) (data : Word16) (s : State) : State := s.respond st data

/-- A word that no row of the opcode map selects: "status ILLEGAL_CMD and response data 0 and changes
no state, touches no bus and no select line" (30_encoding.md R83). -/
def State.illegal (s : State) : State := s.raise .illegalCmd 0

end Sys2Proof.Machine
end

