-- ==== Sys2Proof/Machine/Operands.lean ====
section
/-! DEFINITION. The operand forms of the commands: register indices (10_state.md R35), finger and
channel indices (30_encoding.md R81; 60_exceptions.md R250), and the numeric codes of statuses,
phases and select lines. -/

namespace Sys2Proof.Machine

/-- A finger index: 0 to 4, else `none` (BAD_CHANNEL). -/
def finger? (f : Nat) : Option (Fin 5) := if h : f < 5 then some ⟨f, h⟩ else none

/-- A PWM channel index: 0 to 15, else `none` (BAD_CHANNEL; 44_pwm.md R210). -/
def channel? (c : Nat) : Option (Fin 16) := if h : c < 16 then some ⟨c, h⟩ else none

/-- The registers of the index map (10_state.md R35). -/
inductive Reg where
  | settle | rawMin | rawMax | rxlen | txlen | seq | freq | phase | tick | sel
  | reading (i : Fin 5) | val (f : Fin 5) | pulse (f : Fin 5) | duty (c : Fin 16)
deriving DecidableEq, Repr

/-- The register an index names; `none` is an unassigned index (BAD_ADDR) (R35). -/
def Reg.ofIndex (a : Nat) : Option Reg :=
  if a = 0x01 then some .settle
  else if a = 0x02 then some .rawMin
  else if a = 0x03 then some .rawMax
  else if a = 0x04 then some .rxlen
  else if a = 0x05 then some .txlen
  else if a = 0x06 then some .seq
  else if a = 0x07 then some .freq
  else if a = 0x08 then some .phase
  else if a = 0x09 then some .tick
  else if a = 0x0A then some .sel
  else if 0x10 ≤ a ∧ a ≤ 0x14 then (finger? (a - 0x10)).map .reading
  else if 0x18 ≤ a ∧ a ≤ 0x1C then (finger? (a - 0x18)).map .val
  else if 0x20 ≤ a ∧ a ≤ 0x24 then (finger? (a - 0x20)).map .pulse
  else if 0x30 ≤ a ∧ a ≤ 0x3F then (channel? (a - 0x30)).map .duty
  else none

/-- The index of a register (R35, read the other way). -/
def Reg.index : Reg → Nat
  | .settle => 0x01
  | .rawMin => 0x02
  | .rawMax => 0x03
  | .rxlen => 0x04
  | .txlen => 0x05
  | .seq => 0x06
  | .freq => 0x07
  | .phase => 0x08
  | .tick => 0x09
  | .sel => 0x0A
  | .reading i => 0x10 + i.val
  | .val f => 0x18 + f.val
  | .pulse f => 0x20 + f.val
  | .duty c => 0x30 + c.val

/-- Access "RO": WRREG refuses with READ_ONLY (R35). -/
def Reg.readOnly : Reg → Bool
  | .settle | .rawMin | .rawMax | .rxlen | .reading _ => false
  | .txlen | .seq | .freq | .phase | .tick | .sel | .val _ | .pulse _ | .duty _ => true

/-- "8 bits wide (RXLEN, READING[i])" among the writable registers (40_host_access.md R113). -/
def Reg.isByte : Reg → Bool
  | .rxlen | .reading _ => true
  | .settle | .rawMin | .rawMax | .txlen | .seq | .freq | .phase | .tick | .sel
  | .val _ | .pulse _ | .duty _ => false

/-- The code of a phase (10_state.md R30). -/
def Phase.code : Phase → BitVec 2
  | .uninit => 0
  | .ready => 1
  | .dead => 2

/-- The 8-bit code of a status (60_exceptions.md R250). -/
def Status.code : Status → Byte
  | .ok => 0x00
  | .skipped => 0x01
  | .busFail => 0x10
  | .badHeader => 0x20
  | .badCount => 0x21
  | .badToken => 0x22
  | .tooLong => 0x23
  | .badChannel => 0x30
  | .badOperand => 0x31
  | .noData => 0x32
  | .badAddr => 0x33
  | .readOnly => 0x34
  | .illegalCmd => 0x40
  | .badPhase => 0x41

/-- The bits of the response data RDREG gives for a register: column "bits returned in response
data" (R35); the bits above are 0. -/
def State.regValue (s : State) : Reg → Word16
  | .settle => s.settle
  | .rawMin => s.rawMin
  | .rawMax => s.rawMax
  | .rxlen => s.rxlen.setWidth 16
  | .txlen => s.txlen.setWidth 16
  | .seq => (BitVec.ofBool s.seqv ++ s.seq).setWidth 16
  | .freq => s.freq
  | .phase => s.phase.code.setWidth 16
  | .tick => (BitVec.ofBool s.tick).setWidth 16
  | .sel => s.sel.setWidth 16
  | .reading i => s.reading[i].setWidth 16
  | .val f => s.val[f].setWidth 16
  | .pulse f => s.pulse[f]
  | .duty c => s.duty[c].setWidth 16

/-- The mux select lines (S2, S1, S0) = (SEL[2], SEL[1], SEL[0]) (10_state.md R28; 30_encoding.md R95). -/
def State.selectLines (s : State) : Bool × Bool × Bool :=
  (s.sel.getLsbD 2, s.sel.getLsbD 1, s.sel.getLsbD 0)

/-- The port cmd_ready = NOT BUSY (30_encoding.md R85). -/
def State.cmdReady (s : State) : Bool := !s.busy

end Sys2Proof.Machine
end

