-- ==== Sys2Proof/Machine/Flags.lean ====
section
/-! DEFINITION. The flag bits of AMC (10_state.md R36): there are no condition codes; every flag is a
valid flag, SEQV, TICK or BUSY. Here: which flag guards a register, and the writes that set a
register together with its flag. -/

namespace Sys2Proof.Machine

/-- The valid flag of a register (10_state.md R35, column "valid flag"); `true` where the table says
"always valid". -/
def State.regValid (s : State) : Reg → Bool
  | .reading i => s.readv[i]
  | .val _ => s.valv
  | .pulse f => s.pulsev[f]
  | .duty c => s.dutyv[c]
  | .settle | .rawMin | .rawMax | .rxlen | .txlen | .seq | .freq | .phase | .tick | .sel => true

/-- All five READV are 1 (43_frame.md R173). -/
def State.allReadv (s : State) : Bool := (List.finRange 5).all (fun i => s.readv[i])

/-- READING[i] <- v; READV[i] <- 1 (R21). -/
def State.storeReading (i : Fin 5) (v : Byte) (s : State) : State :=
  { s with reading := s.reading.set i v, readv := s.readv.set i true }

/-- PULSE[f] <- p; PULSEV[f] <- 1 (R24). -/
def State.storePulse (f : Fin 5) (p : Word16) (s : State) : State :=
  { s with pulse := s.pulse.set f p, pulsev := s.pulsev.set f true }

/-- DUTY[c] <- off; DUTYV[c] <- 1 (R25). -/
def State.storeDuty (c : Fin 16) (off : BitVec 12) (s : State) : State :=
  { s with duty := s.duty.set c off, dutyv := s.dutyv.set c true }

/-- VAL[0..4] <- v, VALV <- 1, SEQV <- has_seq, and SEQ <- seq when has_seq = 1 (R22, R23). -/
def State.storeFrame (hasSeq : Bool) (seq : Byte) (v : Vector Byte 5) (s : State) : State :=
  { s with val := v, valv := true, seqv := hasSeq, seq := if hasSeq then seq else s.seq }

/-- The write of WRREG: `register <- imm`, and READV[i] <- 1 with READING[i] (40_host_access.md
R113). A read-only register is not written. -/
def State.writeReg (r : Reg) (imm : Nat) (s : State) : State :=
  match r with
  | .settle => { s with settle := BitVec.ofNat 16 imm }
  | .rawMin => { s with rawMin := BitVec.ofNat 16 imm }
  | .rawMax => { s with rawMax := BitVec.ofNat 16 imm }
  | .rxlen => { s with rxlen := BitVec.ofNat 8 imm }
  | .reading i => s.storeReading i (BitVec.ofNat 8 imm)
  | .txlen | .seq | .freq | .phase | .tick | .sel | .val _ | .pulse _ | .duty _ => s

end Sys2Proof.Machine
end

