-- ==== Sys2Proof/Machine/Acquisition.lean ====
section
/-! DEFINITION. The acquisition unit (41_acquisition.md): the sample normaliser and ACQ. -/

namespace Sys2Proof.Machine

/-- `map_sensor(r, lo, hi)` (R131). -/
def mapSensor (c : Config) (r lo hi : Nat) : Nat :=
  if hi ≤ lo then 0
  else
    let rc := clamp r lo hi
    rdiv ((rc - lo) * c.vmax.toNat) (hi - lo)

/-- One turn of ACQ's loop (R133), with SETTLE, RAW_MIN, RAW_MAX as read at the command's start. -/
def State.acqChannel (settle lo hi : Nat) (s : State) (ch : Fin 5) : State :=
  let s := s.select (BitVec.ofNat 3 ch.val)
  let s := s.waitCycles settle
  let (r, s) := s.sample
  s.storeReading ch (BitVec.ofNat 8 (mapSensor s.cfg r.toNat lo hi))

/-- The effect of ACQ (R133): channels 0 to 4 in this order. -/
def State.acq (s : State) : State :=
  (([0, 1, 2, 3, 4] : List (Fin 5)).foldl
    (State.acqChannel s.settle.toNat s.rawMin.toNat s.rawMax.toNat) s).done 0

/-- ACQ (R133). -/
def execAcq (s : State) : Host.Outcome State Fault Refusal := .next s.acq

end Sys2Proof.Machine
end

