-- ==== Sys2Proof/Machine/HostAccess.lean ====
section
/-! DEFINITION. The host access commands (40_host_access.md R110 to R116): NOP, RDREG, WRREG, RXWR, TXRD,
TACK. -/

namespace Sys2Proof.Machine

/-- NOP (R111). -/
def execNop (s : State) : Host.Outcome State Fault Refusal := .next (s.done 0)

/-- The effect of RDREG (R112). -/
def State.rdreg (a : Nat) (s : State) : State :=
  match Reg.ofIndex a with
  | none => s.raise .badAddr 0
  | some r => if s.regValid r then s.done (s.regValue r) else s.raise .noData 0

/-- RDREG a (R112). -/
def execRdreg (a : Nat) (s : State) : Host.Outcome State Fault Refusal := .next (s.rdreg a)

/-- The effect of WRREG (R113). -/
def State.wrreg (a imm : Nat) (s : State) : State :=
  match Reg.ofIndex a with
  | none => s.raise .badAddr 0
  | some r =>
    if r.readOnly then s.raise .readOnly 0
    else if r.isByte && decide (255 < imm) then s.raise .badOperand 0
    else (s.writeReg r imm).done 0

/-- WRREG a, imm (R113). -/
def execWrreg (a imm : Nat) (s : State) : Host.Outcome State Fault Refusal := .next (s.wrreg a imm)

/-- The effect of RXWR (R114). -/
def State.rxwr (a byte : Nat) (s : State) : State :=
  if s.cfg.frameMax ≤ a then s.raise .badAddr 0
  else State.done 0 { s with rx := s.rx.write a (BitVec.ofNat 8 byte) }

/-- RXWR a, byte (R114). -/
def execRxwr (a byte : Nat) (s : State) : Host.Outcome State Fault Refusal := .next (s.rxwr a byte)

/-- The effect of TXRD (R115). -/
def State.txrd (a : Nat) (s : State) : State :=
  if s.cfg.txSize ≤ a then s.raise .badAddr 0
  else s.done ((s.tx.read a).setWidth 16)

/-- TXRD a (R115). -/
def execTxrd (a : Nat) (s : State) : Host.Outcome State Fault Refusal := .next (s.txrd a)

/-- The effect of TACK (R116). The flag is read and cleared in one step; a tick "in this same cycle"
is one that arrives at the event of the response, after the clear, so TICK stays 1 (log 16). -/
def State.tack (s : State) : State :=
  State.done ((BitVec.ofBool s.tick).setWidth 16) { s with tick := false }

/-- TACK (R116). -/
def execTack (s : State) : Host.Outcome State Fault Refusal := .next s.tack

end Sys2Proof.Machine
end

