-- ==== Sys2Proof/Machine/Frame.lean ====
section
/-! DEFINITION. The frame unit (43_frame.md; 30_encoding.md R90 to R93): encoder, tokenizer, validator,
ENC and DEC. -/

namespace Sys2Proof.Machine

/-- The header byte "H" (00_scope.md R9). -/
def headerByte : Byte := 0x48
/-- The comma. -/
def commaByte : Byte := 0x2C
/-- The space. -/
def spaceByte : Byte := 0x20

/-! ### Encoder (R172) -/

/-- `encode(with_seq, seq, r[0..4])` (R172). -/
def encodeFrame (withSeq : Bool) (seq : Nat) (r : List Nat) : List Byte :=
  headerByte :: ((if withSeq then commaByte :: decDigits seq else []) ++
    r.flatMap (fun v => commaByte :: decDigits v))

/-- The effect of ENC (R173). -/
def State.enc (withSeq : Bool) (seq : Nat) (s : State) : State :=
  if s.allReadv then
    let b := encodeFrame withSeq seq (s.reading.toList.map (·.toNat))
    State.done (BitVec.ofNat 16 b.length)
      { s with tx := s.tx.writeBytes 0 b, txlen := BitVec.ofNat 8 b.length }
  else s.raise .noData 0

/-- ENC with_seq, seq (R173). -/
def execEnc (withSeq : Bool) (seq : Nat) (s : State) : Host.Outcome State Fault Refusal :=
  .next (s.enc withSeq seq)

/-! ### Tokenizer (R177) and integer parser (R178) -/

/-- A token: a run of non-delimiter bytes (30_encoding.md R91). -/
abbrev Token := List Byte

/-- The delimiters: comma and space, nothing else (30_encoding.md R91). -/
def isDelim (b : Byte) : Bool := b == commaByte || b == spaceByte

/-- The tokens of a byte string whose first run already began with `cur`. -/
def tokensFrom : Token → List Byte → List Token
  | cur, [] => if cur = [] then [] else [cur]
  | cur, b :: bs =>
    if isDelim b then if cur = [] then tokensFrom [] bs else cur :: tokensFrom [] bs
    else tokensFrom (cur ++ [b]) bs

/-- `tokens(b)`: the maximal runs of non-delimiter bytes, in order (R177). -/
def tokens (b : List Byte) : List Token := tokensFrom [] b

/-- A digit byte, 0x30 to 0x39. -/
def isDigit (b : Byte) : Bool := decide (0x30 ≤ b.toNat) && decide (b.toNat ≤ 0x39)

/-- The decimal value of digit bytes, most significant first. -/
def digitsValue (ds : List Byte) : Nat := ds.foldl (fun n b => 10 * n + (b.toNat - 0x30)) 0

/-- One or more digits and nothing else. -/
def parseDigits (t : Token) : Option Nat :=
  if t ≠ [] ∧ t.all isDigit then some (digitsValue t) else none

/-- `parse_int(t)` (R178): `[+-]?[0-9]+`, a mathematical integer of any size; `none` is FAILS. -/
def parseInt : Token → Option Int
  | [] => none
  | b :: t =>
    if b = 0x2B then (parseDigits t).map (fun n : Nat => (n : Int))
    else if b = 0x2D then (parseDigits t).map (fun n : Nat => -(n : Int))
    else (parseDigits (b :: t)).map (fun n : Nat => (n : Int))

/-- Every token of a list, or `none` at the first that fails. -/
def parseAll : List Token → Option (List Int)
  | [] => some []
  | t :: ts =>
    match parseInt t with
    | none => none
    | some x => (parseAll ts).map (x :: ·)

/-! ### Validator (R189) -/

/-- The verdict of `decode`: `Reject(status)` or `Accept(has_seq, seq, v[0..4])`. -/
inductive Verdict where
  | reject (st : Status)
  | accept (hasSeq : Bool) (seq : Byte) (v : Vector Byte 5)
deriving DecidableEq, Repr

/-- Clamp on parse: a parsed value into [0, VMAX] (R186). -/
def clampValue (c : Config) (x : Int) : Byte := BitVec.ofInt 8 (clamp x 0 c.vmax.toNat)

/-- The values after the header: five, or a sequence number (modulo 256, R185) and five. -/
def acceptValues (c : Config) : List Int → Verdict
  | [a, b, d, e, f] =>
    .accept false 0 #v[clampValue c a, clampValue c b, clampValue c d, clampValue c e, clampValue c f]
  | [q, a, b, d, e, f] =>
    .accept true (BitVec.ofInt 8 (q % 256))
      #v[clampValue c a, clampValue c b, clampValue c d, clampValue c e, clampValue c f]
  | _ => .reject .badCount

/-- The checks on the tokens: header (R181), count (R182), integers (R183). -/
def decodeTokens (c : Config) : List Token → Verdict
  | [] => .reject .badHeader
  | h :: ts =>
    if h ≠ [headerByte] then .reject .badHeader
    else if ts.length ≠ 5 ∧ ts.length ≠ 6 then .reject .badCount
    else
      match parseAll ts with
      | none => .reject .badToken
      | some xs => acceptValues c xs

/-- `decode(b)` (R189). -/
def decodeFrame (c : Config) (b : List Byte) : Verdict :=
  if c.frameMax < b.length then .reject .tooLong else decodeTokens c (tokens b)

/-- The verdict on the received frame: "if RXLEN > FRAME_MAX: raise TOO_LONG(0)", RX not being read,
else that of `decode` on RX[0 .. RXLEN-1] (R179; 45_pipeline.md R241 stage 1). -/
def State.rxVerdict (s : State) : Verdict :=
  if s.cfg.frameMax < s.rxlen.toNat then .reject .tooLong
  else decodeFrame s.cfg (s.rx.firstBytes s.rxlen.toNat)

/-- The effect of DEC (R179). -/
def State.dec (s : State) : State :=
  match s.rxVerdict with
  | .reject st => s.raise st 0
  | .accept hasSeq seq v =>
    (s.storeFrame hasSeq seq v).done ((BitVec.ofBool hasSeq ++ seq).setWidth 16)

/-- DEC (R179). -/
def execDec (s : State) : Host.Outcome State Fault Refusal := .next s.dec

end Sys2Proof.Machine
end

