-- ==== Sys2Proof/Machine/Mapping.lean ====
section
/-! DEFINITION. The mapping unit (42_mapping.md): value_to_pulse, MAPV, MAPI. -/

namespace Sys2Proof.Machine

/-- The effective range width w of R151: `max(VMAX - FLOOR, 1)`. The truncated subtraction is the
integer one here, since a negative difference is below 1. -/
def pulseWidthSpan (c : Config) : Nat := max (c.vmax.toNat - c.floor.toNat) 1

/-- The numerator n2 of the exact fraction n2 / w after steps 1 to 5 of R151. Both inversions act on
it in this order (R154). -/
def pulseNumerator (c : Config) (f : Fin 5) (v : Int) : Nat :=
  let v1 := (clamp v 0 c.vmax.toNat).toNat
  let v2 := max v1 c.floor.toNat
  let w := pulseWidthSpan c
  let n0 := v2 - c.floor.toNat
  let n1 := if c.invertAll then w - n0 else n0
  if c.chInvert[f] then w - n1 else n1

/-- `value_to_pulse(f, v)` (R151). -/
def valueToPulse (c : Config) (f : Fin 5) (v : Int) : Nat :=
  c.pulseMinUs.toNat +
    rdiv (pulseNumerator c f v * (c.pulseMaxUs.toNat - c.pulseMinUs.toNat)) (pulseWidthSpan c)

/-- `p = value_to_pulse(f, v); PULSE[f] <- p; PULSEV[f] <- 1; done(p)`: the common end of MAPV and
MAPI (R155, R156). -/
def State.mapValue (f : Fin 5) (v : Int) (s : State) : State :=
  let p := BitVec.ofNat 16 (valueToPulse s.cfg f v)
  (s.storePulse f p).done p

/-- The effect of MAPV (R155). -/
def State.mapv (f : Nat) (s : State) : State :=
  match finger? f with
  | none => s.raise .badChannel 0
  | some f => if s.valv then s.mapValue f s.val[f].toNat else s.raise .noData 0

/-- MAPV f (R155). -/
def execMapv (f : Nat) (s : State) : Host.Outcome State Fault Refusal := .next (s.mapv f)

/-- The effect of MAPI (R156). -/
def State.mapi (f : Nat) (v : Int) (s : State) : State :=
  match finger? f with
  | none => s.raise .badChannel 0
  | some f => s.mapValue f v

/-- MAPI f, v (R156). -/
def execMapi (f : Nat) (v : Int) (s : State) : Host.Outcome State Fault Refusal := .next (s.mapi f v)

end Sys2Proof.Machine
end

