-- ==== Sys2Proof/Machine/Pwm.lean ====
section
/-! DEFINITION. The PWM unit (44_pwm.md): prescaler calculator, initialisation sequencer, duty-cycle
register sequencer, and the commands PWMINIT, PWMSET, PWMSETR. -/

namespace Sys2Proof.Machine

/-! ### Prescaler and initialisation -/

/-- `calc_prescale(hz)` (R201); the subtraction is on integers. -/
def calcPrescale (c : Config) (hz : Nat) : Int :=
  clamp ((rdiv c.oscHz (4096 * hz) : Int) - 1) 3 255

/-- The prescaler byte (30_encoding.md R98). -/
def prescaleByte (c : Config) (hz : Nat) : Byte := BitVec.ofInt 8 (calcPrescale c hz)

/-- `m_sleep = old OR MODE1_SLEEP` (30_encoding.md R96). -/
def mode1AsleepByte (c : Config) (old : Byte) : Byte := old ||| c.mode1Sleep
/-- `m_wake = old AND NOT MODE1_SLEEP` (30_encoding.md R96). -/
def mode1AwakeByte (c : Config) (old : Byte) : Byte := old &&& ~~~c.mode1Sleep
/-- `m_run = m_wake OR MODE1_AI` (30_encoding.md R96). -/
def mode1RunByte (c : Config) (old : Byte) : Byte := mode1AwakeByte c old ||| c.mode1Ai

/-- The bus steps B1 to B5 of R204 with the prescaler byte `p`: `none` if all answered without FAIL,
else the number of the step that failed; no later step runs (R207). -/
def State.initSteps (p : Byte) (s : State) : Option Nat × State :=
  match s.busRead s.cfg.regMode1 with
  | (none, s) => (some 1, s)
  | (some old, s) =>
    match s.busWrite s.cfg.regMode1 [mode1AsleepByte s.cfg old] with
    | (false, s) => (some 2, s)
    | (true, s) =>
      match s.busWrite s.cfg.regPrescale [p] with
      | (false, s) => (some 3, s)
      | (true, s) =>
        match s.busWrite s.cfg.regMode1 [mode1AwakeByte s.cfg old] with
        | (false, s) => (some 4, s)
        | (true, s) =>
          match (s.waitCycles s.cfg.oscStabCycles).busWrite s.cfg.regMode1 [mode1RunByte s.cfg old] with
          | (false, s) => (some 5, s)
          | (true, s) => (none, s)

/-- The effect of PWMINIT (R203, R206 to R209). -/
def State.pwminit (hz : Nat) (s : State) : State :=
  if s.phase ≠ .uninit then s.raise .badPhase 0
  else if hz = 0 then s.raise .badOperand 0
  else
    let p := prescaleByte s.cfg hz
    match s.initSteps p with
    | (some step, s) => State.raise .busFail (BitVec.ofNat 16 step) { s with phase := .dead }
    | (none, s) =>
      State.done (p.setWidth 16) { s with freq := BitVec.ofNat 16 hz, phase := .ready }

/-- PWMINIT hz (R203). -/
def execPwminit (hz : Nat) (s : State) : Host.Outcome State Fault Refusal := .next (s.pwminit hz)

/-! ### Duty-cycle register sequencer -/

/-- `off_count(us)` (R211). -/
def offCount (c : Config) (freq us : Nat) : Nat :=
  let u := clamp us c.drvMinUs.toNat c.drvMaxUs.toNat
  min 4095 (rdiv (u * freq * 4096) 1000000)

/-- The register number of channel c's block, `REG_CH_BASE + 4*c` (20_memory.md R63). -/
def channelReg (cfg : Config) (c : Fin 16) : Byte := cfg.regChBase + BitVec.ofNat 8 (4 * c.val)

/-- The four data bytes of the burst: on_lo, on_hi, off_lo, off_hi (R213; 30_encoding.md R97). -/
def burstBytes (off : BitVec 12) : List Byte :=
  [0x00, 0x00, off.setWidth 8, (off.extractLsb' 8 4).setWidth 8]

/-- What `set_pulse` returns: the status, the count, and the state it leaves. -/
structure PulseResult where
  status : Status
  off : BitVec 12
  state : State

/-- `set_pulse(c, us)` (R215): shared by PWMSET, PWMSETR and APPLY. -/
def State.setPulse (c us : Nat) (s : State) : PulseResult :=
  match channel? c with
  | none => ⟨.badChannel, 0, s⟩
  | some c =>
    if s.freq = 0 then ⟨.skipped, 0, s⟩
    else
      let off := BitVec.ofNat 12 (offCount s.cfg s.freq.toNat us)
      match s.busWrite (channelReg s.cfg c) (burstBytes off) with
      | (false, s) => ⟨.busFail, off, s⟩
      | (true, s) => ⟨.ok, off, s.storeDuty c off⟩

/-- `if st = OK: done(off) else raise st(off)` (R216, R217). -/
def PulseResult.finish (r : PulseResult) : State :=
  if r.status = .ok then r.state.done (r.off.setWidth 16)
  else r.state.raise r.status (r.off.setWidth 16)

/-- The effect of PWMSET (R216). -/
def State.pwmset (c us : Nat) (s : State) : State := (s.setPulse c us).finish

/-- PWMSET c, us (R216). -/
def execPwmset (c us : Nat) (s : State) : Host.Outcome State Fault Refusal := .next (s.pwmset c us)

/-- The effect of PWMSETR (R217). -/
def State.pwmsetr (f : Nat) (s : State) : State :=
  match finger? f with
  | none => s.raise .badChannel 0
  | some f =>
    if s.pulsev[f] then (s.setPulse s.cfg.servoCh[f].val s.pulse[f].toNat).finish
    else s.raise .noData 0

/-- PWMSETR f (R217). -/
def execPwmsetr (f : Nat) (s : State) : Host.Outcome State Fault Refusal := .next (s.pwmsetr f)

end Sys2Proof.Machine
end

