-- ==== Sys2Proof/Machine/Pipeline.lean ====
section
/-! DEFINITION. The hand-side pipeline command APPLY (45_pipeline.md). -/

namespace Sys2Proof.Machine

/-- Where stage 2 of APPLY stands: the mask of failed fingers, the skip mark, the state (R241). -/
structure ApplyProgress where
  fail : BitVec 5
  skip : Bool
  state : State

/-- One turn of stage 2 (R241): map finger f, store its pulse, write its burst. A bus failure does
not stop the others (R242). -/
def ApplyProgress.finger (a : ApplyProgress) (f : Fin 5) : ApplyProgress :=
  let p := valueToPulse a.state.cfg f a.state.val[f].toNat
  let r := (a.state.storePulse f (BitVec.ofNat 16 p)).setPulse a.state.cfg.servoCh[f].val p
  { fail := if r.status = .busFail then a.fail ||| (1#5 <<< f.val) else a.fail
    skip := a.skip || decide (r.status = .skipped)
    state := r.state }

/-- The end of stage 2 (R241): BUS_FAIL over SKIPPED over OK. -/
def ApplyProgress.finish (a : ApplyProgress) : State :=
  if a.fail ≠ 0 then a.state.raise .busFail (a.fail.setWidth 16)
  else if a.skip then a.state.raise .skipped 0
  else a.state.done 0

/-- Stage 2: fingers 0 to 4 in this order (R241). -/
def State.applyFingers (s : State) : ApplyProgress :=
  ([0, 1, 2, 3, 4] : List (Fin 5)).foldl ApplyProgress.finger ⟨0, false, s⟩

/-- The effect of APPLY (R241). -/
def State.apply (s : State) : State :=
  match s.rxVerdict with
  | .reject st => s.raise st 0
  | .accept hasSeq seq v => (s.storeFrame hasSeq seq v).applyFingers.finish

/-- APPLY (R241). -/
def execApply (s : State) : Host.Outcome State Fault Refusal := .next s.apply

end Sys2Proof.Machine
end

