-- ==== Sys2Proof/Machine/Dispatch.lean ====
section
/-! DEFINITION. One arm per command (30_encoding.md R82). -/

namespace Sys2Proof.Machine

def exec (i : Instr) (s : State) : Host.Outcome State Fault Refusal :=
  match i with
  | .nop => Sys2Proof.Machine.execNop s
  | .rdreg a => Sys2Proof.Machine.execRdreg a s
  | .wrreg a imm => Sys2Proof.Machine.execWrreg a imm s
  | .rxwr a byte => Sys2Proof.Machine.execRxwr a byte s
  | .txrd a => Sys2Proof.Machine.execTxrd a s
  | .tack => Sys2Proof.Machine.execTack s
  | .acq => Sys2Proof.Machine.execAcq s
  | .enc withSeq seq => Sys2Proof.Machine.execEnc withSeq seq s
  | .dec => Sys2Proof.Machine.execDec s
  | .mapv f => Sys2Proof.Machine.execMapv f s
  | .mapi f v => Sys2Proof.Machine.execMapi f v s
  | .pwminit hz => Sys2Proof.Machine.execPwminit hz s
  | .pwmset c us => Sys2Proof.Machine.execPwmset c us s
  | .pwmsetr f => Sys2Proof.Machine.execPwmsetr f s
  | .apply => Sys2Proof.Machine.execApply s

end Sys2Proof.Machine
end

