-- ==== Sys2Proof/Machine/Port.lean ====
section
/-! DEFINITION. The command port, the tick input and the reset input (30_encoding.md R83 to R86;
10_state.md R31, R38; 70_reset_and_hazards.md R280, R281). -/

namespace Sys2Proof.Machine

/-- The next input is taken from the list; nothing else changes. -/
def State.takeInput (rest : List Input) (s : State) : State :=
  { s with env := { s.env with input := rest } }

/-- A command is accepted: BUSY rises (10_state.md R38). -/
def State.accept (rest : List Input) (s : State) : State :=
  { s.takeInput rest with busy := true }

/-- An accepted word: the command it encodes, or ILLEGAL_CMD (30_encoding.md R83; 40_host_access.md
R110: the word is matched "before anything else is looked at"). -/
def runWord (w : CmdWord) (s : State) : Host.Outcome State Fault Refusal :=
  match decode w with
  | .ok i => exec i s
  | .error _ => .next s.illegal

/-- A tick between two commands: TICK <- 1 (10_state.md R31). -/
def State.tickArrives (s : State) : State :=
  { s with tick := true, env := { s.env with trace := s.env.trace ++ [.tick] } }

/-- Is the event a `Tick`? -/
def Event.isTick : Event → Bool
  | .tick => true
  | _ => false

/-- Is the event a conversion? -/
def Event.isSample : Event → Bool
  | .sample _ => true
  | _ => false

/-- Is the event a bus transaction? -/
def Event.isBus : Event → Bool
  | .busRead _ _ _ => true
  | .busWrite _ _ _ _ => true
  | _ => false

/-- The outside world after the events `evs` of a command that `rst` cut: the answers they used are
used up, and the select lines are driven anew (log 10). -/
def Env.afterCut (evs : List Event) (e : Env) : Env :=
  { e with ticks := e.ticks.drop (evs.countP (fun x => !x.isTick))
           conversions := e.conversions.drop (evs.countP Event.isSample)
           busReplies := e.busReplies.drop (evs.countP Event.isBus)
           drawn := e.drawn + evs.countP (fun x => x.isSample || x.isBus)
           settledFor := 0
           trace := e.trace ++ evs }

/-- `rst` (70_reset_and_hazards.md R280, R281): every state element takes its reset value, whatever it
held; `evs` are the events of the abandoned command that had occurred. The outside world is not
AMC's to reset. -/
def State.rst (evs : List Event) (s : State) : State :=
  State.resetWith s.cfg (s.env.afterCut evs)

/-- The first `n` events of a command that takes `s` to `t`, its response left out: "no response is
given, no further event of that command occurs" (R281). -/
def cutEvents (n : Nat) (s t : State) : List Event :=
  ((t.env.trace.drop s.env.trace.length).dropLast).take n

/-- The command word `w` is accepted in `s` and `rst` strikes after `n` of its events (R281). -/
def runCut (w : CmdWord) (n : Nat) (s : State) : Host.Outcome State Fault Refusal :=
  match runWord w s with
  | .next t => .next (s.rst (cutEvents n s t))
  | .fault r => .fault r
  | .refused r => .refused r

end Sys2Proof.Machine
end

