-- ==== Sys2Proof/Machine/Step.lean ====
section
/-! DEFINITION. One step: the next input from the outside world is handled (log 5, log 11, log 14). -/

namespace Sys2Proof.Machine

/-- One step. With no input AMC waits (70_reset_and_hazards.md R280: "after reset AMC waits for the
first command"; 10_state.md R31: "AMC never starts work on its own"). While BUSY = 1 the command
port accepts nothing (10_state.md R38), and ticks and `rst` still arrive. -/
def step (s : State) : Host.Outcome State Fault Refusal :=
  match s.env.input with
  | [] => .next s
  | .tick :: rest => .next (s.takeInput rest).tickArrives
  | .rst :: rest => .next ((s.takeInput rest).rst [])
  | .cmd w :: rest => if s.busy then .next s else runWord w (s.accept rest)
  | .cmdCut w n :: rest => if s.busy then .next s else runCut w n (s.accept rest)

/-- The state in which the host offers the word `w` as the next input and the command port is ready
(30_encoding.md R85): the very next step runs it. A program comes to run from outside: the host
presents one command word at a time (10_state.md R40; log 14). -/
def State.withFetchWord (s : State) (nbits w : Nat) : State :=
  { s with busy := false
           env := { s.env with input := .cmd (BitVec.ofNat 32 (w % 2 ^ nbits)) :: s.env.input } }

end Sys2Proof.Machine
end

