-- ==== Sys2Proof/Machine/Assembler.lean ====
section
/-! DEFINITION. The textual form of commands (30_encoding.md R87): mnemonic, then the operands in the order
a, imm, separated by a comma, decimal or 0x-hexadecimal; register names; the one pseudo-command,
RXLOAD. Text is a list of characters (log 17). -/

namespace Sys2Proof.Machine

/-- `RXLOAD "text"` "stands for `RXWR i, byte_i` for every byte i of the ASCII text in ascending order,
then `WRREG RXLEN, length`" (R87). -/
def rxload (text : List Byte) : List Instr :=
  text.zipIdx.map (fun p => .rxwr p.2 p.1.toNat) ++ [.wrreg 0x04 text.length]

/-- The value of a digit character in a base of 10 or 16. -/
def digitOf (base : Nat) (ch : Char) : Option Nat :=
  let n := ch.toNat
  let d := if 48 ≤ n ∧ n ≤ 57 then n - 48
    else if 97 ≤ n ∧ n ≤ 102 then n - 87
    else if 65 ≤ n ∧ n ≤ 70 then n - 55
    else base
  if d < base then some d else none

/-- The number written by the digits of a text, `acc` being what stands before them. -/
def readDigits (base : Nat) : Nat → List Char → Option Nat
  | acc, [] => some acc
  | acc, ch :: cs =>
    match digitOf base ch with
    | none => none
    | some d => readDigits base (base * acc + d) cs

/-- An unsigned number, decimal or 0x-hexadecimal (R87). -/
def readNat : List Char → Option Nat
  | '0' :: 'x' :: ch :: cs => readDigits 16 0 (ch :: cs)
  | ch :: cs => readDigits 10 0 (ch :: cs)
  | [] => none

/-- A signed number (MAPI's value, R87). -/
def readInt : List Char → Option Int
  | '-' :: cs => (readNat cs).map (fun n : Nat => -(n : Int))
  | cs => (readNat cs).map (fun n : Nat => (n : Int))

/-- The name of a register, with the element in brackets (R87; 10_state.md R35). -/
def Reg.name : Reg → List Char
  | .settle => ['S', 'E', 'T', 'T', 'L', 'E']
  | .rawMin => ['R', 'A', 'W', '_', 'M', 'I', 'N']
  | .rawMax => ['R', 'A', 'W', '_', 'M', 'A', 'X']
  | .rxlen => ['R', 'X', 'L', 'E', 'N']
  | .txlen => ['T', 'X', 'L', 'E', 'N']
  | .seq => ['S', 'E', 'Q']
  | .freq => ['F', 'R', 'E', 'Q']
  | .phase => ['P', 'H', 'A', 'S', 'E']
  | .tick => ['T', 'I', 'C', 'K']
  | .sel => ['S', 'E', 'L']
  | .reading i => ['R', 'E', 'A', 'D', 'I', 'N', 'G', '['] ++ Nat.toDigits 10 i.val ++ [']']
  | .val f => ['V', 'A', 'L', '['] ++ Nat.toDigits 10 f.val ++ [']']
  | .pulse f => ['P', 'U', 'L', 'S', 'E', '['] ++ Nat.toDigits 10 f.val ++ [']']
  | .duty c => ['D', 'U', 'T', 'Y', '['] ++ Nat.toDigits 10 c.val ++ [']']

/-- Every register of the index map. -/
def allRegs : List Reg :=
  [.settle, .rawMin, .rawMax, .rxlen, .txlen, .seq, .freq, .phase, .tick, .sel] ++
  (List.finRange 5).map .reading ++ (List.finRange 5).map .val ++
  (List.finRange 5).map .pulse ++ (List.finRange 16).map .duty

/-- A register index: a number, or a register's name (R87). -/
def readIndex (cs : List Char) : Option Nat :=
  match allRegs.find? (fun r => r.name == cs) with
  | some r => some r.index
  | none => readNat cs

/-- The text without the blanks before it. -/
def skipBlanks (cs : List Char) : List Char := cs.dropWhile (· == ' ')

/-- The text without the blanks around it. -/
def trimBlanks (cs : List Char) : List Char := (skipBlanks (skipBlanks cs).reverse).reverse

/-- The pieces of a text between commas, each without the blanks around it; `cur` is the piece
already begun. -/
def commaPieces : List Char → List Char → List (List Char)
  | cur, [] => [trimBlanks cur]
  | cur, ch :: cs => if ch = ',' then trimBlanks cur :: commaPieces [] cs else commaPieces (cur ++ [ch]) cs

/-- The mnemonic of a line and its operands (R87: "Commands with no operand are written bare"). -/
def splitLine (line : List Char) : List Char × List (List Char) :=
  let line := trimBlanks line
  let rest := skipBlanks (line.dropWhile (· != ' '))
  (line.takeWhile (· != ' '), if rest = [] then [] else commaPieces [] rest)

/-- `with_seq`, a[0] of ENC: 0 or 1, decimal or 0x-hexadecimal (R87: `ENC 1, 3`; R82). -/
def readFlag (cs : List Char) : Option Bool :=
  (readNat cs).bind (fun a => if a = 0 then some false else if a = 1 then some true else none)

/-- The command of a mnemonic and its operands (R87); `none` where they do not fit. -/
def readCommand (mn : List Char) (ops : List (List Char)) : Option Instr :=
  if mn = ['N', 'O', 'P'] ∧ ops = [] then some .nop
  else if mn = ['T', 'A', 'C', 'K'] ∧ ops = [] then some .tack
  else if mn = ['A', 'C', 'Q'] ∧ ops = [] then some .acq
  else if mn = ['D', 'E', 'C'] ∧ ops = [] then some .dec
  else if mn = ['A', 'P', 'P', 'L', 'Y'] ∧ ops = [] then some .apply
  else
    match ops with
    | [x] =>
      if mn = ['R', 'D', 'R', 'E', 'G'] then (readIndex x).map .rdreg
      else if mn = ['T', 'X', 'R', 'D'] then (readNat x).map .txrd
      else if mn = ['M', 'A', 'P', 'V'] then (readNat x).map .mapv
      else if mn = ['P', 'W', 'M', 'I', 'N', 'I', 'T'] then (readNat x).map .pwminit
      else if mn = ['P', 'W', 'M', 'S', 'E', 'T', 'R'] then (readNat x).map .pwmsetr
      else none
    | [x, y] =>
      if mn = ['W', 'R', 'R', 'E', 'G'] then (readIndex x).bind (fun a => (readNat y).map (.wrreg a))
      else if mn = ['R', 'X', 'W', 'R'] then (readNat x).bind (fun a => (readNat y).map (.rxwr a))
      else if mn = ['E', 'N', 'C'] then (readFlag x).bind (fun w => (readNat y).map (.enc w))
      else if mn = ['M', 'A', 'P', 'I'] then (readNat x).bind (fun f => (readInt y).map (.mapi f))
      else if mn = ['P', 'W', 'M', 'S', 'E', 'T'] then (readNat x).bind (fun c => (readNat y).map (.pwmset c))
      else none
    | _ => none

/-- The text between double quotes of `RXLOAD "text"`, if the line is one. -/
def rxloadText (line : List Char) : Option (List Char) :=
  match trimBlanks line with
  | 'R' :: 'X' :: 'L' :: 'O' :: 'A' :: 'D' :: ' ' :: rest =>
    match skipBlanks rest with
    | '"' :: body => if body.getLast? = some '"' then some body.dropLast else none
    | _ => none
  | _ => none

/-- The commands a line stands for (R87): one command, or the expansion of RXLOAD for an ASCII text.
A line that asks for an operand no command word can carry stands for none (log 17). -/
def assembleLine (line : List Char) : Option (List Instr) :=
  let program : Option (List Instr) :=
    match rxloadText line with
    | some text =>
      if text.all (fun ch : Char => decide (ch.toNat < 128)) then
        some (rxload (text.map (fun ch : Char => BitVec.ofNat 8 ch.toNat)))
      else none
    | none => (readCommand (splitLine line).1 (splitLine line).2).map (fun i => [i])
  program.filter (fun is => is.all Instr.wf)

end Sys2Proof.Machine
end

