-- ==== Sys2Proof/Safety.lean ====
section
/-! DEFINITION. The terms claims are made in: the events of commands, "unchanged but for the tick flag and
the outside world", what a command leaves, the invariant of the machine between commands, and the
relation of two machines that differ only in what no valid flag vouches for. -/

namespace Sys2Proof.Machine

/-! ### Events and ticks -/

/-- The events of commands: the trace without the tick source's events, which "may fall between any
two events" (30_encoding.md R86). -/
def State.events (s : State) : List Event := s.env.trace.filter (fun e => !e.isTick)

/-- Whether a tick arrives at one of the next `n` events (10_state.md R31). -/
def State.tickWithin (n : Nat) (s : State) : Bool := (s.env.ticks.take n).any (fun k => decide (0 < k))

/-- The machine without the tick flag, BUSY and the outside world: two states with equal `still`
have the same configuration, registers, flags, special registers and memories. -/
def State.still (s : State) : State := { s with tick := false, busy := false, env := Env.silent }

/-- What a command that starts in `s` leaves, `t`: every register, flag and memory as in `r` (but
TICK, which only a tick may raise), exactly the events `evs`, BUSY back at 0, and of the outside
world exactly the answers the events used. -/
structure Leaves (s r t : State) (evs : List Event) : Prop where
  registers : t.still = r.still
  tickFlag : t.tick = (r.tick || s.tickWithin evs.length)
  idle : t.busy = false
  events : t.events = s.events ++ evs
  input : t.env.input = s.env.input
  ticks : t.env.ticks = s.env.ticks.drop evs.length
  conversions : t.env.conversions = s.env.conversions.drop (evs.countP Event.isSample)
  busReplies : t.env.busReplies = s.env.busReplies.drop (evs.countP Event.isBus)

/-- The command `i`, started in `s`, completes: it answers a next state, which is what `Leaves` says. -/
def Completes (i : Instr) (s r : State) (evs : List Event) : Prop :=
  ∃ t, exec i s = .next t ∧ Leaves s r t evs

/-- The bus target's answer to the k-th transaction from now on: the k-th of the coming answers, or the
free value drawn for it (20_memory.md R66). -/
def State.replyAt (s : State) (k : Nat) : BusReply :=
  match s.env.busReplies[k]? with
  | some r => r
  | none => ⟨Config.freeBusOk (s.env.drawn + k), Config.freeBusByte (s.env.drawn + k)⟩

/-- The bus transactions so far, in order (30_encoding.md R86). -/
def State.busTrace (s : State) : List Event := s.events.filter Event.isBus

/-- The last event of a trace, if it is a response: its status and data (30_encoding.md R84). -/
def State.response (s : State) : Option (Status × Word16) :=
  match s.events.getLast? with
  | some (.rsp st d) => some (st, d)
  | _ => none

/-- Is the event a response? -/
def Event.isRsp : Event → Bool
  | .rsp _ _ => true
  | _ => false

/-- Is the event a wait? -/
def Event.isWait : Event → Bool
  | .wait _ => true
  | _ => false

/-- Is the event a duty-cycle burst, a write of four data bytes (20_memory.md R65)? -/
def Event.isBurst : Event → Bool
  | .busWrite _ _ bytes _ => bytes.length == 4
  | _ => false

/-- The registers DEC and APPLY set on an accepted frame (43_frame.md R179). -/
def State.withFrame (s : State) (hasSeq : Bool) (seq : Byte) (v : Vector Byte 5) : State :=
  { s with val := v, valv := true, seqv := hasSeq, seq := if hasSeq then seq else s.seq }

/-- Executing a list of commands one after another (10_state.md R40), without the command port. -/
def execAll : List Instr → State → Host.Outcome State Fault Refusal
  | [], s => .next s
  | i :: is, s =>
    match exec i s with
    | .next t => execAll is t
    | .fault r => .fault r
    | .refused r => .refused r

/-! ### The invariant between commands -/

/-- What holds in AMC after reset and after every step (each field names its rule). -/
structure State.Inv (s : State) : Prop where
  /-- The configuration meets its constraints (00_scope.md R10 to R12). -/
  config : s.cfg.Valid
  /-- RX is in canonical form and inside its space (20_memory.md R60). -/
  rxForm : s.rx.wf = true
  rxSpace : s.rx.within s.cfg.frameMax = true
  /-- TX is in canonical form and inside its space (20_memory.md R60). -/
  txForm : s.tx.wf = true
  txSpace : s.tx.within s.cfg.txSize = true
  /-- "FREQ != 0 exactly when PHASE = READY" (10_state.md R29). -/
  freqReady : s.freq ≠ 0 ↔ s.phase = .ready
  /-- VAL is "always in [0, VMAX] once valid" (10_state.md R22). -/
  valRange : s.valv = true → ∀ f : Fin 5, s.val[f].toNat ≤ s.cfg.vmax.toNat
  /-- A valid PULSE is in [PULSE_MIN_US, PULSE_MAX_US] (10_state.md R24). -/
  pulseRange : ∀ f : Fin 5, s.pulsev[f] = true →
    s.cfg.pulseMinUs.toNat ≤ s.pulse[f].toNat ∧ s.pulse[f].toNat ≤ s.cfg.pulseMaxUs.toNat
  /-- A channel has a written count only once PWMINIT has succeeded (44_pwm.md R212, R215). -/
  dutyReady : ∀ c : Fin 16, s.dutyv[c] = true → s.phase = .ready
  /-- TXLEN is "0 to 25" (10_state.md R33). -/
  txlenRange : s.txlen.toNat ≤ 25
  /-- "Values 5, 6, 7 are never driven" (30_encoding.md R95). -/
  selRange : s.sel.toNat ≤ 4
  /-- Between commands AMC is not busy (10_state.md R38). -/
  idle : s.busy = false

/-! ### Two machines that differ in what no flag vouches for -/

/-- Equal but for the contents of registers that no rule gives a value yet: READING[i] where READV[i]
= 0, VAL where VALV = 0, PULSE[f] where PULSEV[f] = 0, DUTY[c] where DUTYV[c] = 0 (10_state.md R21 to
R25, R41). -/
structure SameVouched (s t : State) : Prop where
  rest : { t with reading := s.reading, val := s.val, pulse := s.pulse, duty := s.duty } = s
  reading : ∀ i : Fin 5, s.readv[i] = true → s.reading[i] = t.reading[i]
  val : s.valv = true → s.val = t.val
  pulse : ∀ f : Fin 5, s.pulsev[f] = true → s.pulse[f] = t.pulse[f]
  duty : ∀ c : Fin 16, s.dutyv[c] = true → s.duty[c] = t.duty[c]

end Sys2Proof.Machine
end

