-- ==== Sys2Proof/Certificates/Slice0/Obligations.lean ====
section
/-! DEFINITION. The statements for the provers. Each docstring names the rule of spec/ it rests on.
Most say `Completes i s r evs`: the command, started in any state `s`, answers a next state in which
every register is as in `r`, and its events are exactly `evs` (Safety.lean). -/

open Sys2Proof Sys2Proof.Machine

/-! ### Encoding -/

/-- 30_encoding.md R81, R82, R87: the decoder gives back every well-formed command from its word. -/
def Obligations.DecodeOfEncode : Prop :=
  ∀ i : Instr, i.wf = true → decode (encode i) = .ok i

/-- 30_encoding.md R81, R82, R87: a decoded command is well formed, and its word is the one decoded. -/
def Obligations.EncodeOfDecode : Prop :=
  ∀ (w : CmdWord) (i : Instr), decode w = .ok i → i.wf = true ∧ encode i = w

/-- 30_encoding.md R80, R81, R82: the opcode map, row by row, and no other command. -/
def Obligations.DecodeFollowsOpcodeMap : Prop :=
  ∀ (w : CmdWord) (i : Instr), decode w = .ok i ↔
    (w &&& 0xFFFFFFFF = 0x00000000 ∧ i = .nop) ∨
    (w &&& 0xFF00FFFF = 0x01000000 ∧ i = .rdreg (w.toNat / 2 ^ 16 % 2 ^ 8)) ∨
    (w &&& 0xFF000000 = 0x02000000 ∧ i = .wrreg (w.toNat / 2 ^ 16 % 2 ^ 8) (w.toNat % 2 ^ 16)) ∨
    (w &&& 0xFF00FF00 = 0x03000000 ∧ i = .rxwr (w.toNat / 2 ^ 16 % 2 ^ 8) (w.toNat % 2 ^ 8)) ∨
    (w &&& 0xFF00FFFF = 0x04000000 ∧ i = .txrd (w.toNat / 2 ^ 16 % 2 ^ 8)) ∨
    (w &&& 0xFFFFFFFF = 0x05000000 ∧ i = .tack) ∨
    (w &&& 0xFFFFFFFF = 0x10000000 ∧ i = .acq) ∨
    (w &&& 0xFFFEFF00 = 0x20000000 ∧
      i = .enc (decide (w.toNat / 2 ^ 16 % 2 = 1)) (w.toNat % 2 ^ 8)) ∨
    (w &&& 0xFFFFFFFF = 0x21000000 ∧ i = .dec) ∨
    (w &&& 0xFF00FFFF = 0x30000000 ∧ i = .mapv (w.toNat / 2 ^ 16 % 2 ^ 8)) ∨
    (w &&& 0xFF000000 = 0x31000000 ∧
      i = .mapi (w.toNat / 2 ^ 16 % 2 ^ 8)
        (if w.toNat % 2 ^ 16 < 2 ^ 15 then ((w.toNat % 2 ^ 16 : Nat) : Int)
         else ((w.toNat % 2 ^ 16 : Nat) : Int) - 2 ^ 16)) ∨
    (w &&& 0xFFFF0000 = 0x40000000 ∧ i = .pwminit (w.toNat % 2 ^ 16)) ∨
    (w &&& 0xFF000000 = 0x41000000 ∧ i = .pwmset (w.toNat / 2 ^ 16 % 2 ^ 8) (w.toNat % 2 ^ 16)) ∨
    (w &&& 0xFF00FFFF = 0x42000000 ∧ i = .pwmsetr (w.toNat / 2 ^ 16 % 2 ^ 8)) ∨
    (w &&& 0xFFFFFFFF = 0x50000000 ∧ i = .apply)

/-- 30_encoding.md R87, 95_test_vectors.md: words written out from the spec's encodings. -/
def Obligations.WrittenWordsDecode : Prop :=
  decode 0x020204B0 = .ok (.wrreg 0x02 1200) ∧ decode 0x033F0041 = .ok (.rxwr 63 0x41) ∧
  decode 0x200100FF = .ok (.enc true 255) ∧ decode 0x3100FFFB = .ok (.mapi 0 (-5)) ∧
  decode 0x410305DC = .ok (.pwmset 3 1500) ∧ decode 0x40000032 = .ok (.pwminit 50) ∧
  decode 0x50000000 = .ok .apply ∧ (decode 0x30020001).toOption = none

/-- 30_encoding.md R83: a word that no row selects ends with ILLEGAL_CMD and changes nothing. -/
def Obligations.IllegalWordChangesNothing : Prop :=
  ∀ (s : State) (w : CmdWord) (rest : List Input), s.busy = false →
    s.env.input = .cmd w :: rest → (∀ o : Opcode, w &&& o.mask ≠ o.pattern) →
    ∃ t, step s = .next t ∧ Leaves (s.accept rest) s t [.rsp .illegalCmd 0]

/-! ### The step -/

/-- 10_state.md R38, R40; 30_encoding.md R85: a step runs the command the next word encodes, with that
input taken and BUSY risen. -/
def Obligations.StepRunsDecodedCommand : Prop :=
  ∀ (s : State) (w : CmdWord) (rest : List Input) (i : Instr), s.busy = false →
    s.env.input = .cmd w :: rest → decode w = .ok i →
    step s = exec i { s with busy := true, env := { s.env with input := rest } }

/-- 10_state.md R31, R38: without an input AMC does nothing, whatever TICK says, and while BUSY = 1 the
command port accepts nothing. -/
def Obligations.StepWaitsWithoutCommand : Prop :=
  (∀ s : State, s.env.input = [] → step s = .next s) ∧
  (∀ (s : State) (w : CmdWord) (rest : List Input), s.busy = true →
    s.env.input = .cmd w :: rest → step s = .next s)

/-- 10_state.md R31: a tick between two commands sets TICK and does nothing else. -/
def Obligations.TickSetsTickOnly : Prop :=
  ∀ (s : State) (rest : List Input), s.env.input = .tick :: rest →
    ∃ t, step s = .next t ∧ t.tick = true ∧ t.still = s.still ∧ t.busy = s.busy ∧
      t.events = s.events ∧ t.env.input = rest

/-- 10_state.md R41: the reset values (the contents of READING, VAL, PULSE and DUTY, which R41 leaves
without a value, are not stated), and that the machine after reset is such a state. -/
def Obligations.ResetValues : Prop :=
  (∀ (c : Config) (e : Env),
    let s := State.resetWith c e
    (∀ i : Fin 5, s.readv[i] = false) ∧ s.valv = false ∧ (∀ f : Fin 5, s.pulsev[f] = false) ∧
    (∀ k : Fin 16, s.dutyv[k] = false) ∧ s.seq = 0 ∧ s.seqv = false ∧
    s.rawMin = c.rawMinReset ∧ s.rawMax = c.rawMaxReset ∧ s.settle = c.settleReset ∧ s.sel = 0 ∧
    s.freq = 0 ∧ s.phase = .uninit ∧ s.tick = false ∧ s.rxlen = 0 ∧ s.txlen = 0 ∧
    (∀ a, s.rx.read a = 0) ∧ (∀ a, s.tx.read a = 0) ∧ s.busy = false) ∧
  ∃ c e, State.reset = State.resetWith c e

/-- 70_reset_and_hazards.md R280: `rst` gives the reset state from every state, busy or not. The model's
own choices in it: what READING, VAL, PULSE and DUTY hold then, which R41 leaves without a value (log 4),
and that the events seen before are kept (log 9). -/
def Obligations.ResetFromEveryState : Prop :=
  ∀ (s : State) (rest : List Input), s.env.input = .rst :: rest →
    ∃ t, step s = .next t ∧ t.still = (State.resetWith s.cfg Env.silent).still ∧
      t.tick = false ∧ t.busy = false ∧ t.events = s.events ∧ t.env.input = rest

/-- 70_reset_and_hazards.md R281: `rst` in the middle of a command abandons it: the reset state, no
response, and of its events a beginning; `u` is what the whole command would have left. The model's own
choices in it: what READING, VAL, PULSE and DUTY hold after reset, which R41 leaves without a value (log 4),
that the events seen are kept (log 9), and that `rst` falls between whole events (log 10). -/
def Obligations.ResetAbandonsCommand : Prop :=
  ∀ (s u : State) (w : CmdWord) (n : Nat) (rest : List Input), s.busy = false →
    s.env.input = .cmdCut w n :: rest → runWord w (s.accept rest) = .next u →
    ∃ t evs more, step s = .next t ∧ t.still = (State.resetWith s.cfg Env.silent).still ∧
      t.tick = false ∧ t.busy = false ∧ t.env.input = rest ∧
      t.env.trace = s.env.trace ++ evs ∧ u.env.trace = s.env.trace ++ evs ++ more ∧
      more ≠ [] ∧ evs.length ≤ n ∧ evs.all (fun e => !e.isRsp) = true

/-! ### Invariants -/

/-- 10_state.md R41: the machine right after reset meets the invariant. -/
def Obligations.ResetMeetsInvariant : Prop := State.reset.Inv

/-- 10_state.md R22, R24, R29, R33, R38; 20_memory.md R60; 30_encoding.md R95: every step keeps the
invariant. -/
def Obligations.StepKeepsInvariant : Prop :=
  ∀ s t : State, s.Inv → step s = .next t → t.Inv

/-- 00_scope.md R15; 30_encoding.md R84; 10_state.md R38: every command, in every state, answers a next
state with one response, its last event, and BUSY = 0. -/
def Obligations.EveryCommandAnswersOnce : Prop :=
  ∀ (i : Instr) (s : State), ∃ t evs st d, exec i s = .next t ∧ t.busy = false ∧
    t.events = s.events ++ evs ++ [.rsp st d] ∧ evs.all (fun e => !e.isRsp) = true

/-! ### Host access -/

/-- 40_host_access.md R111: NOP changes nothing; the word 0x00000001 is not NOP, it is illegal. -/
def Obligations.NopChangesNothing : Prop :=
  decode 0x00000000 = .ok .nop ∧ (decode 0x00000001).toOption = none ∧
  ∀ s : State, Completes .nop s s [.rsp .ok 0]

/-- 40_host_access.md R112 and 10_state.md R35: what RDREG answers for every index. -/
def Obligations.RdregAnswersRegister : Prop :=
  ∀ s : State,
    Completes (.rdreg 0x01) s s [.rsp .ok s.settle] ∧
    Completes (.rdreg 0x02) s s [.rsp .ok s.rawMin] ∧
    Completes (.rdreg 0x03) s s [.rsp .ok s.rawMax] ∧
    Completes (.rdreg 0x04) s s [.rsp .ok (BitVec.ofNat 16 s.rxlen.toNat)] ∧
    Completes (.rdreg 0x05) s s [.rsp .ok (BitVec.ofNat 16 s.txlen.toNat)] ∧
    Completes (.rdreg 0x06) s s
      [.rsp .ok (BitVec.ofNat 16 (s.seq.toNat + if s.seqv then 256 else 0))] ∧
    Completes (.rdreg 0x07) s s [.rsp .ok s.freq] ∧
    Completes (.rdreg 0x08) s s
      [.rsp .ok (match s.phase with | .uninit => 0 | .ready => 1 | .dead => 2)] ∧
    Completes (.rdreg 0x09) s s [.rsp .ok (if s.tick then 1 else 0)] ∧
    Completes (.rdreg 0x0A) s s [.rsp .ok (BitVec.ofNat 16 s.sel.toNat)] ∧
    (∀ i : Fin 5, Completes (.rdreg (0x10 + i.val)) s s
      [if s.readv[i] then .rsp .ok (BitVec.ofNat 16 s.reading[i].toNat) else .rsp .noData 0]) ∧
    (∀ f : Fin 5, Completes (.rdreg (0x18 + f.val)) s s
      [if s.valv then .rsp .ok (BitVec.ofNat 16 s.val[f].toNat) else .rsp .noData 0]) ∧
    (∀ f : Fin 5, Completes (.rdreg (0x20 + f.val)) s s
      [if s.pulsev[f] then .rsp .ok s.pulse[f] else .rsp .noData 0]) ∧
    (∀ c : Fin 16, Completes (.rdreg (0x30 + c.val)) s s
      [if s.dutyv[c] then .rsp .ok (BitVec.ofNat 16 s.duty[c].toNat) else .rsp .noData 0]) ∧
    (∀ a : Nat, a = 0 ∨ (0x0B ≤ a ∧ a ≤ 0x0F) ∨ (0x15 ≤ a ∧ a ≤ 0x17) ∨ (0x1D ≤ a ∧ a ≤ 0x1F) ∨
      (0x25 ≤ a ∧ a ≤ 0x2F) ∨ 0x40 ≤ a → Completes (.rdreg a) s s [.rsp .badAddr 0])

/-- 40_host_access.md R113 and 10_state.md R35: what WRREG writes for every index and value. -/
def Obligations.WrregWritesRegister : Prop :=
  ∀ (s : State) (imm : Nat), imm < 65536 →
    Completes (.wrreg 0x01 imm) s { s with settle := BitVec.ofNat 16 imm } [.rsp .ok 0] ∧
    Completes (.wrreg 0x02 imm) s { s with rawMin := BitVec.ofNat 16 imm } [.rsp .ok 0] ∧
    Completes (.wrreg 0x03 imm) s { s with rawMax := BitVec.ofNat 16 imm } [.rsp .ok 0] ∧
    (imm ≤ 255 →
      Completes (.wrreg 0x04 imm) s { s with rxlen := BitVec.ofNat 8 imm } [.rsp .ok 0]) ∧
    (255 < imm → Completes (.wrreg 0x04 imm) s s [.rsp .badOperand 0]) ∧
    (∀ i : Fin 5, imm ≤ 255 → Completes (.wrreg (0x10 + i.val) imm) s
      { s with reading := s.reading.set i (BitVec.ofNat 8 imm), readv := s.readv.set i true }
      [.rsp .ok 0]) ∧
    (∀ i : Fin 5, 255 < imm → Completes (.wrreg (0x10 + i.val) imm) s s [.rsp .badOperand 0]) ∧
    (∀ a : Nat, (0x05 ≤ a ∧ a ≤ 0x0A) ∨ (0x18 ≤ a ∧ a ≤ 0x1C) ∨ (0x20 ≤ a ∧ a ≤ 0x24) ∨
      (0x30 ≤ a ∧ a ≤ 0x3F) → Completes (.wrreg a imm) s s [.rsp .readOnly 0]) ∧
    (∀ a : Nat, a = 0 ∨ (0x0B ≤ a ∧ a ≤ 0x0F) ∨ (0x15 ≤ a ∧ a ≤ 0x17) ∨ (0x1D ≤ a ∧ a ≤ 0x1F) ∨
      (0x25 ≤ a ∧ a ≤ 0x2F) ∨ 0x40 ≤ a → Completes (.wrreg a imm) s s [.rsp .badAddr 0])

/-- 40_host_access.md R114: RXWR stores one byte of RX and leaves every other byte, or refuses an
address outside RX. -/
def Obligations.RxwrStoresOneByte : Prop :=
  ∀ (s : State) (a byte : Nat), s.rx.wf = true → byte < 256 →
    (a < s.cfg.frameMax → ∃ t, exec (.rxwr a byte) s = .next t ∧
      Leaves s { s with rx := t.rx } t [.rsp .ok 0] ∧
      ∀ x, t.rx.read x = if x = a then BitVec.ofNat 8 byte else s.rx.read x) ∧
    (s.cfg.frameMax ≤ a → Completes (.rxwr a byte) s s [.rsp .badAddr 0])

/-- 40_host_access.md R115: TXRD answers one byte of TX, or refuses an address outside TX. -/
def Obligations.TxrdAnswersByte : Prop :=
  ∀ (s : State) (a : Nat),
    (a < s.cfg.txSize →
      Completes (.txrd a) s s [.rsp .ok (BitVec.ofNat 16 (s.tx.read a).toNat)]) ∧
    (s.cfg.txSize ≤ a → Completes (.txrd a) s s [.rsp .badAddr 0])

/-- 40_host_access.md R116: TACK answers TICK and clears it; a tick that arrives in the same cycle
leaves it set (`Leaves.tickFlag`). -/
def Obligations.TackAnswersAndClears : Prop :=
  ∀ s : State, Completes .tack s { s with tick := false } [.rsp .ok (if s.tick then 1 else 0)]

/-- 60_exceptions.md R253, R262: ticks before or inside a command, TACK and RDREG of TICK excepted, never
change its status, its data, its events or a register but TICK; those two, which answer TICK, end with OK
either way. -/
def Obligations.TicksChangeNoCommand : Prop :=
  (∀ (i : Instr) (s : State) (tk : Bool) (ticks : List Nat), i ≠ .tack → i ≠ .rdreg 0x09 →
    ∃ t t', exec i s = .next t ∧
      exec i { s with tick := tk, env := { s.env with ticks := ticks } } = .next t' ∧
      t'.still = t.still ∧ t'.events = t.events) ∧
  (∀ (i : Instr) (s : State), i = .tack ∨ i = .rdreg 0x09 →
    ∃ t d, exec i s = .next t ∧ t.response = some (.ok, d))

/-! ### Acquisition -/

/-- 41_acquisition.md R133: ACQ's events, readings and SEL, whatever the samples; and, when SETTLE is at
least T_SETTLE_MIN, each sample is what the selected input carries (20_memory.md R67). -/
def Obligations.AcqReadsFiveChannels : Prop :=
  ∀ s : State, ∃ r : Vector Word16 5,
    (let m := fun x : Word16 =>
        BitVec.ofNat 8 (mapSensor s.cfg x.toNat s.rawMin.toNat s.rawMax.toNat)
     Completes .acq s
      { s with sel := 4
               reading := #v[m r[0], m r[1], m r[2], m r[3], m r[4]]
               readv := #v[true, true, true, true, true] }
      [.sel 0, .wait s.settle.toNat, .sample r[0], .sel 1, .wait s.settle.toNat, .sample r[1],
       .sel 2, .wait s.settle.toNat, .sample r[2], .sel 3, .wait s.settle.toNat, .sample r[3],
       .sel 4, .wait s.settle.toNat, .sample r[4], .rsp .ok 0]) ∧
    (s.cfg.tSettleMin ≤ s.settle.toNat → ∀ (k : Fin 5) (c : Conversion),
      s.env.conversions[k.val]? = some c → r[k] = c.inputs[k.val])

/-- 41_acquisition.md R131: map_sensor is 0 on a degenerate window, else the nearest integer to the
exact linear map of the clamped sample, ties to even. -/
def Obligations.MapSensorIsNearest : Prop :=
  ∀ (c : Config) (r lo hi : Nat),
    (hi ≤ lo → mapSensor c r lo hi = 0) ∧
    (lo < hi →
      let num : Int := ((min (max r lo) hi : Nat) - lo : Int) * c.vmax.toNat
      let den : Int := hi - lo
      let m : Int := mapSensor c r lo hi
      2 * num - den ≤ 2 * m * den ∧ 2 * m * den ≤ 2 * num + den ∧
      (2 * m * den = 2 * num - den ∨ 2 * m * den = 2 * num + den → m % 2 = 0))

/-- 41_acquisition.md R134: map_sensor is monotonic, within [0, VMAX], exact at both ends, saturating,
and 0 when lo = hi. -/
def Obligations.MapSensorProperties : Prop :=
  ∀ (c : Config) (lo hi : Nat),
    (lo < hi →
      (∀ r r', r ≤ r' → mapSensor c r lo hi ≤ mapSensor c r' lo hi) ∧
      (∀ r, r ≤ lo → mapSensor c r lo hi = 0) ∧
      (∀ r, hi ≤ r → mapSensor c r lo hi = c.vmax.toNat)) ∧
    (∀ r, mapSensor c r lo hi ≤ c.vmax.toNat) ∧
    (lo = hi → ∀ r, mapSensor c r lo hi = 0)

/-- 20_memory.md R67, 70_reset_and_hazards.md R290: with enough settling there is no ghosting: what the
other inputs carry, and what an unsettled converter would have answered, does not change a reading. -/
def Obligations.SettledChannelsDoNotGhost : Prop :=
  ∀ (s t t' : State) (cs cs' : List Conversion) (k : Fin 5) (c c' : Conversion),
    s.cfg.tSettleMin ≤ s.settle.toNat → cs[k.val]? = some c → cs'[k.val]? = some c' →
    c.inputs[k.val] = c'.inputs[k.val] →
    exec .acq { s with env := { s.env with conversions := cs } } = .next t →
    exec .acq { s with env := { s.env with conversions := cs' } } = .next t' →
    t'.reading[k] = t.reading[k]

/-! ### Frames -/

/-- 00_scope.md R19 (`dec`): 1 to 3 digit bytes, no leading zero, the value of n. -/
def Obligations.DecimalDigits : Prop :=
  ∀ n : Nat, n < 256 →
    1 ≤ (decDigits n).length ∧ (decDigits n).length ≤ 3 ∧
    (∀ b ∈ decDigits n, 0x30 ≤ b.toNat ∧ b.toNat ≤ 0x39) ∧
    digitsValue (decDigits n) = n ∧
    (2 ≤ (decDigits n).length → (decDigits n).head? ≠ some 0x30)

/-- 43_frame.md R172, R173, R175: ENC writes the frame's bytes at TX 0 up, TXLEN, and no other byte; or
ends with NO_DATA if a reading was never written. -/
def Obligations.EncWritesFrame : Prop :=
  ∀ (s : State) (withSeq : Bool) (seq : Nat), s.tx.wf = true → seq < 256 →
    ((∀ i : Fin 5, s.readv[i] = true) →
      let d := fun i : Fin 5 => 0x2C#8 :: decDigits s.reading[i].toNat
      let frame := [0x48#8] ++ (if withSeq then 0x2C#8 :: decDigits seq else []) ++
        d 0 ++ d 1 ++ d 2 ++ d 3 ++ d 4
      ∃ t, exec (.enc withSeq seq) s = .next t ∧
        Leaves s { s with tx := t.tx, txlen := BitVec.ofNat 8 frame.length } t
          [.rsp .ok (BitVec.ofNat 16 frame.length)] ∧
        (∀ k, (h : k < frame.length) → t.tx.read k = frame[k]) ∧
        (∀ k, frame.length ≤ k → t.tx.read k = s.tx.read k)) ∧
    ((∃ i : Fin 5, s.readv[i] = false) → Completes (.enc withSeq seq) s s [.rsp .noData 0])

/-- 43_frame.md R174: how long an encoded frame is. -/
def Obligations.EncodedFrameLength : Prop :=
  ∀ (seq a b c d e : Nat), seq < 256 → a < 256 → b < 256 → c < 256 → d < 256 → e < 256 →
    11 ≤ (encodeFrame false seq [a, b, c, d, e]).length ∧
    (encodeFrame false seq [a, b, c, d, e]).length ≤ 21 ∧
    13 ≤ (encodeFrame true seq [a, b, c, d, e]).length ∧
    (encodeFrame true seq [a, b, c, d, e]).length ≤ 25 ∧
    (a ≤ 9 → b ≤ 9 → c ≤ 9 → d ≤ 9 → e ≤ 9 →
      (encodeFrame false seq [a, b, c, d, e]).length = 11 ∧
      (encodeFrame true seq [a, b, c, d, e]).length ≤ 15)

/-- 43_frame.md R177: the tokens are the maximal runs of bytes that are neither comma nor space. -/
def Obligations.TokensAreMaximalRuns : Prop :=
  (∀ (b : List Byte), ∀ t ∈ tokens b, t ≠ [] ∧ ∀ x ∈ t, x ≠ 0x2C ∧ x ≠ 0x20) ∧
  tokens [] = [] ∧
  (∀ (x : Byte) (b : List Byte), x = 0x2C ∨ x = 0x20 → tokens (x :: b) = tokens b) ∧
  (∀ (t : List Byte), t ≠ [] → (∀ x ∈ t, x ≠ 0x2C ∧ x ≠ 0x20) →
    tokens t = [t] ∧
    ∀ (x : Byte) (b : List Byte), x = 0x2C ∨ x = 0x20 → tokens (t ++ x :: b) = t :: tokens b)

/-- 43_frame.md R178: the integer tokens and their values, of any size; every other token fails. -/
def Obligations.ParseIntAcceptsIntegers : Prop :=
  (∀ (ds : List Byte), ds ≠ [] → (∀ b ∈ ds, 0x30 ≤ b.toNat ∧ b.toNat ≤ 0x39) →
    parseInt ds = some (digitsValue ds : Int) ∧
    parseInt (0x2B :: ds) = some (digitsValue ds : Int) ∧
    parseInt (0x2D :: ds) = some (-(digitsValue ds : Int))) ∧
  (∀ (t : List Byte) (x : Int), parseInt t = some x →
    ∃ sign ds, t = sign ++ ds ∧ (sign = [] ∨ sign = [0x2B] ∨ sign = [0x2D]) ∧ ds ≠ [] ∧
      ∀ b ∈ ds, 0x30 ≤ b.toNat ∧ b.toNat ≤ 0x39) ∧
  digitsValue [] = 0 ∧
  (∀ (ds : List Byte) (b : Byte),
    digitsValue (ds ++ [b]) = 10 * digitsValue ds + (b.toNat - 0x30))

/-- 43_frame.md R189: the verdict of `decode`, check by check in order. -/
def Obligations.DecodeChecksInOrder : Prop :=
  ∀ (c : Config) (b : List Byte),
    (c.frameMax < b.length → decodeFrame c b = .reject .tooLong) ∧
    (b.length ≤ c.frameMax →
      ((tokens b).head? ≠ some [0x48] → decodeFrame c b = .reject .badHeader) ∧
      (∀ ts, tokens b = [0x48] :: ts →
        (ts.length ≠ 5 → ts.length ≠ 6 → decodeFrame c b = .reject .badCount) ∧
        (ts.length = 5 ∨ ts.length = 6 → (∃ t ∈ ts, parseInt t = none) →
          decodeFrame c b = .reject .badToken)) ∧
      (∀ t0 t1 t2 t3 t4 x0 x1 x2 x3 x4,
        parseInt t0 = some x0 → parseInt t1 = some x1 → parseInt t2 = some x2 →
        parseInt t3 = some x3 → parseInt t4 = some x4 →
        let v := fun x : Int => BitVec.ofInt 8 (max 0 (min x c.vmax.toNat))
        (tokens b = [[0x48], t0, t1, t2, t3, t4] →
          decodeFrame c b = .accept false 0 #v[v x0, v x1, v x2, v x3, v x4]) ∧
        (∀ tq q, parseInt tq = some q → tokens b = [[0x48], tq, t0, t1, t2, t3, t4] →
          decodeFrame c b =
            .accept true (BitVec.ofNat 8 (q % 256).toNat) #v[v x0, v x1, v x2, v x3, v x4])))

/-- 43_frame.md R179, R187: DEC stores an accepted frame's values, flags and sequence number and
nothing else, and on a rejected one changes nothing. -/
def Obligations.DecAppliesVerdict : Prop :=
  ∀ s : State,
    let b := (List.range s.rxlen.toNat).map s.rx.read
    (s.cfg.frameMax < s.rxlen.toNat → Completes .dec s s [.rsp .tooLong 0]) ∧
    (s.rxlen.toNat ≤ s.cfg.frameMax →
      (∀ st, decodeFrame s.cfg b = .reject st → Completes .dec s s [.rsp st 0]) ∧
      (∀ seq v, decodeFrame s.cfg b = .accept true seq v →
        Completes .dec s { s with val := v, valv := true, seqv := true, seq := seq }
          [.rsp .ok (BitVec.ofNat 16 (256 + seq.toNat))]) ∧
      (∀ seq v, decodeFrame s.cfg b = .accept false seq v →
        Completes .dec s { s with val := v, valv := true, seqv := false } [.rsp .ok 0]))

/-- 43_frame.md R176: decoding an encoded frame gives back the sequence number and every value, those
above VMAX as VMAX. -/
def Obligations.DecodeOfEncodedFrame : Prop :=
  ∀ (c : Config) (seq : Nat) (r : Vector Byte 5), 64 ≤ c.frameMax → seq < 256 →
    let v := r.map (fun x => if x.toNat ≤ c.vmax.toNat then x else c.vmax)
    decodeFrame c (encodeFrame true seq (r.toList.map (·.toNat))) =
      .accept true (BitVec.ofNat 8 seq) v ∧
    decodeFrame c (encodeFrame false seq (r.toList.map (·.toNat))) = .accept false 0 v

/-- 00_scope.md R8, 20_memory.md R75: the hand takes from the glove exactly its readings, if the link
delivers the bytes of the glove's TX unchanged. -/
def Obligations.GloveReadingsReachHand : Prop :=
  ∀ (g g' h : State) (withSeq : Bool) (seq : Nat), g.tx.wf = true → seq < 256 →
    64 ≤ h.cfg.frameMax → (∀ i : Fin 5, g.readv[i] = true) →
    (∀ i : Fin 5, g.reading[i].toNat ≤ h.cfg.vmax.toNat) →
    exec (.enc withSeq seq) g = .next g' → h.rxlen = g'.txlen →
    (∀ k, k < g'.txlen.toNat → h.rx.read k = g'.tx.read k) →
    ∃ h', exec .dec h = .next h' ∧ h'.val = g.reading ∧ h'.valv = true ∧ h'.seqv = withSeq ∧
      (withSeq = true → h'.seq = BitVec.ofNat 8 seq)

/-- 30_encoding.md R87, 40_host_access.md R114: RXLOAD leaves the text in RX from address 0 up and its
length in RXLEN, and no other byte or register changed. -/
def Obligations.RxloadPlacesText : Prop :=
  ∀ (s : State) (text : List Byte), s.rx.wf = true → text.length ≤ s.cfg.frameMax →
    text.length ≤ 255 →
    ∃ t, execAll (rxload text) s = .next t ∧
      t.still = { s.still with rx := t.rx, rxlen := BitVec.ofNat 8 text.length } ∧
      (∀ k, (h : k < text.length) → t.rx.read k = text[k]) ∧
      (∀ k, text.length ≤ k → t.rx.read k = s.rx.read k)

/-! ### Mapping -/

/-- 42_mapping.md R151: value_to_pulse is PULSE_MIN_US plus the nearest integer, ties to even, to the
exact fraction of steps 1 to 5 times the pulse range. -/
def Obligations.PulseIsNearest : Prop :=
  ∀ (c : Config) (f : Fin 5) (v : Int), c.Valid →
    let w : Int := max ((c.vmax.toNat : Int) - c.floor.toNat) 1
    let n0 : Int := max (max 0 (min v c.vmax.toNat)) c.floor.toNat - c.floor.toNat
    let n1 : Int := if c.invertAll then w - n0 else n0
    let n2 : Int := if c.chInvert[f] then w - n1 else n1
    let num : Int := n2 * (c.pulseMaxUs.toNat - c.pulseMinUs.toNat)
    ∃ m : Int, (valueToPulse c f v : Int) = c.pulseMinUs.toNat + m ∧
      2 * num - w ≤ 2 * m * w ∧ 2 * m * w ≤ 2 * num + w ∧
      (2 * m * w = 2 * num - w ∨ 2 * m * w = 2 * num + w → m % 2 = 0)

/-- 42_mapping.md R152: every pulse is in [PULSE_MIN_US, PULSE_MAX_US]. -/
def Obligations.PulseInRange : Prop :=
  ∀ (c : Config) (f : Fin 5) (v : Int), c.Valid →
    c.pulseMinUs.toNat ≤ valueToPulse c f v ∧ valueToPulse c f v ≤ c.pulseMaxUs.toNat

/-- 42_mapping.md R153: clamping, floor and inversion. The swap of the two ends is stated for VMAX at
least 1: R153 derives it from w = VMAX, which a VMAX of 0 does not meet. -/
def Obligations.PulseProperties : Prop :=
  ∀ (c : Config) (f g : Fin 5),
    (∀ v : Int, v ≤ 0 → valueToPulse c f v = valueToPulse c f 0) ∧
    (∀ v : Int, (c.vmax.toNat : Int) ≤ v → valueToPulse c f v = valueToPulse c f c.vmax.toNat) ∧
    (∀ v : Int, v ≤ c.floor.toNat → valueToPulse c f v = valueToPulse c f c.floor.toNat) ∧
    (c.floor = 0 → 1 ≤ c.vmax.toNat → c.chInvert[f] = true → c.chInvert[g] = false →
      valueToPulse c f 0 = valueToPulse c g c.vmax.toNat) ∧
    (c.chInvert[f] = true → c.chInvert[g] = false → ∀ v : Int,
      pulseNumerator c f v + pulseNumerator c g v = pulseWidthSpan c)

/-- 42_mapping.md R154: the table of the canonical constants. -/
def Obligations.CanonicalInversions : Prop :=
  ∀ (c : Config) (f : Fin 5) (v : Int), c.vmax = 9 → c.floor = 2 → c.invertAll = true →
    c.chInvert = #v[false, false, false, false, true] →
    pulseWidthSpan c = 7 ∧
    (f ≠ 4 → (pulseNumerator c f v : Int) = 9 - max 2 (min v 9)) ∧
    (f = 4 → (pulseNumerator c f v : Int) = max 2 (min v 9) - 2)

/-- 42_mapping.md R155: MAPV. -/
def Obligations.MapvStoresPulse : Prop :=
  ∀ (s : State) (f : Nat),
    (4 < f → Completes (.mapv f) s s [.rsp .badChannel 0]) ∧
    (f ≤ 4 → s.valv = false → Completes (.mapv f) s s [.rsp .noData 0]) ∧
    (∀ k : Fin 5, s.valv = true →
      let p := BitVec.ofNat 16 (valueToPulse s.cfg k s.val[k].toNat)
      Completes (.mapv k.val) s { s with pulse := s.pulse.set k p, pulsev := s.pulsev.set k true }
        [.rsp .ok p])

/-- 42_mapping.md R156: MAPI. -/
def Obligations.MapiStoresPulse : Prop :=
  ∀ (s : State) (f : Nat) (v : Int),
    (4 < f → Completes (.mapi f v) s s [.rsp .badChannel 0]) ∧
    (∀ k : Fin 5,
      let p := BitVec.ofNat 16 (valueToPulse s.cfg k v)
      Completes (.mapi k.val v) s { s with pulse := s.pulse.set k p, pulsev := s.pulsev.set k true }
        [.rsp .ok p])

/-! ### PWM -/

/-- 44_pwm.md R201, R202: the prescaler. -/
def Obligations.PrescaleValue : Prop :=
  ∀ (c : Config) (hz : Nat), 1 ≤ hz →
    (∃ q : Int, 2 * (c.oscHz : Int) - 4096 * hz ≤ 2 * q * (4096 * hz) ∧
      2 * q * (4096 * hz) ≤ 2 * (c.oscHz : Int) + 4096 * hz ∧
      (2 * q * (4096 * hz) = 2 * (c.oscHz : Int) - 4096 * hz ∨
        2 * q * (4096 * hz) = 2 * (c.oscHz : Int) + 4096 * hz → q % 2 = 0) ∧
      calcPrescale c hz = max 3 (min (q - 1) 255)) ∧
    (c.oscHz = 25000000 → calcPrescale c 50 = 121)

/-- 44_pwm.md R203, R204, R206 and 30_encoding.md R96: a PWMINIT whose five bus steps are answered OK. -/
def Obligations.PwminitSucceeds : Prop :=
  ∀ (s : State) (hz : Nat), s.phase = .uninit → 1 ≤ hz → hz < 65536 →
    (∀ k, k < 5 → (s.replyAt k).ok = true) →
    let c := s.cfg
    let old := (s.replyAt 0).rdata
    let p := BitVec.ofInt 8 (calcPrescale c hz)
    Completes (.pwminit hz) s { s with freq := BitVec.ofNat 16 hz, phase := .ready }
      [.busRead c.devAddr c.regMode1 (some old),
       .busWrite c.devAddr c.regMode1 [old ||| c.mode1Sleep] true,
       .busWrite c.devAddr c.regPrescale [p] true,
       .busWrite c.devAddr c.regMode1 [old &&& ~~~c.mode1Sleep] true,
       .wait c.oscStabCycles,
       .busWrite c.devAddr c.regMode1 [(old &&& ~~~c.mode1Sleep) ||| c.mode1Ai] true,
       .rsp .ok (BitVec.ofNat 16 p.toNat)]

/-- 44_pwm.md R207: a PWMINIT one of whose bus steps is answered FAIL: no later step runs, PHASE is
DEAD, FREQ is as before, and the response names the step. -/
def Obligations.PwminitFailsAtStep : Prop :=
  ∀ (s : State) (hz n : Nat), s.phase = .uninit → 1 ≤ hz → hz < 65536 → n < 5 →
    (∀ k, k < n → (s.replyAt k).ok = true) → (s.replyAt n).ok = false →
    let c := s.cfg
    let old := (s.replyAt 0).rdata
    let p := BitVec.ofInt 8 (calcPrescale c hz)
    let before : List Event :=
      [.busRead c.devAddr c.regMode1 (some old),
       .busWrite c.devAddr c.regMode1 [old ||| c.mode1Sleep] true,
       .busWrite c.devAddr c.regPrescale [p] true,
       .busWrite c.devAddr c.regMode1 [old &&& ~~~c.mode1Sleep] true]
    let failing : List Event :=
      match n with
      | 0 => [.busRead c.devAddr c.regMode1 none]
      | 1 => [.busWrite c.devAddr c.regMode1 [old ||| c.mode1Sleep] false]
      | 2 => [.busWrite c.devAddr c.regPrescale [p] false]
      | 3 => [.busWrite c.devAddr c.regMode1 [old &&& ~~~c.mode1Sleep] false]
      | _ => [.wait c.oscStabCycles,
              .busWrite c.devAddr c.regMode1 [(old &&& ~~~c.mode1Sleep) ||| c.mode1Ai] false]
    Completes (.pwminit hz) s { s with phase := .dead }
      (before.take n ++ failing ++ [.rsp .busFail (BitVec.ofNat 16 (n + 1))])

/-- 44_pwm.md R208, R209: PWMINIT in READY or DEAD, and PWMINIT 0 in UNINIT. -/
def Obligations.PwminitRefused : Prop :=
  ∀ (s : State) (hz : Nat),
    (s.phase ≠ .uninit → Completes (.pwminit hz) s s [.rsp .badPhase 0]) ∧
    (s.phase = .uninit → Completes (.pwminit 0) s s [.rsp .badOperand 0])

/-- 44_pwm.md R211: the off-count: clamped pulse, nearest count, saturated at 4095, monotonic. -/
def Obligations.OffCountValue : Prop :=
  ∀ (c : Config) (freq us : Nat), c.Valid →
    let u := max c.drvMinUs.toNat (min us c.drvMaxUs.toNat)
    offCount c freq us ≤ 4095 ∧
    (∃ q : Int, 2 * ((u * freq * 4096 : Nat) : Int) - 1000000 ≤ 2 * q * 1000000 ∧
      2 * q * 1000000 ≤ 2 * ((u * freq * 4096 : Nat) : Int) + 1000000 ∧
      (offCount c freq us : Int) = min 4095 q) ∧
    (1000000 ≤ u * freq → offCount c freq us = 4095) ∧
    (∀ us', us ≤ us' → offCount c freq us ≤ offCount c freq us')

/-- 44_pwm.md R213 and 30_encoding.md R97; 20_memory.md R62, R63: the burst carries the count, low byte
first, in a block that no other channel's block touches and that no register number wraps. -/
def Obligations.BurstCarriesCount : Prop :=
  (∀ off : BitVec 12, burstBytes off =
    [0, 0, BitVec.ofNat 8 (off.toNat % 256), BitVec.ofNat 8 (off.toNat / 256)]) ∧
  (∀ (c : Config) (k : Fin 16), c.Valid →
    (channelReg c k).toNat = c.regChBase.toNat + 4 * k.val ∧ (channelReg c k).toNat + 3 ≤ 255) ∧
  (∀ (c : Config) (k l : Fin 16), c.Valid → k < l →
    (channelReg c k).toNat + 3 < (channelReg c l).toNat)

/-- 44_pwm.md R210, R212, R214, R215, R216: PWMSET. -/
def Obligations.PwmsetWritesBurst : Prop :=
  ∀ (s : State) (c us : Nat),
    (15 < c → Completes (.pwmset c us) s s [.rsp .badChannel 0]) ∧
    (c ≤ 15 → s.freq = 0 → Completes (.pwmset c us) s s [.rsp .skipped 0]) ∧
    (∀ k : Fin 16, s.freq ≠ 0 →
      let off := BitVec.ofNat 12 (offCount s.cfg s.freq.toNat us)
      let burst := fun ok => Event.busWrite s.cfg.devAddr (s.cfg.regChBase + BitVec.ofNat 8 (4 * k.val))
        [0, 0, BitVec.ofNat 8 (off.toNat % 256), BitVec.ofNat 8 (off.toNat / 256)] ok
      (s.env.busReply.ok = true → Completes (.pwmset k.val us) s
        { s with duty := s.duty.set k off, dutyv := s.dutyv.set k true }
        [burst true, .rsp .ok (BitVec.ofNat 16 off.toNat)]) ∧
      (s.env.busReply.ok = false → Completes (.pwmset k.val us) s s
        [burst false, .rsp .busFail (BitVec.ofNat 16 off.toNat)]))

/-- 44_pwm.md R217: PWMSETR sends the stored pulse of finger f to the channel SERVO_CH[f]. -/
def Obligations.PwmsetrSendsStoredPulse : Prop :=
  ∀ (s : State) (f : Nat),
    (4 < f → Completes (.pwmsetr f) s s [.rsp .badChannel 0]) ∧
    (∀ g : Fin 5,
      let k := s.cfg.servoCh[g]
      let off := BitVec.ofNat 12 (offCount s.cfg s.freq.toNat s.pulse[g].toNat)
      let burst := fun ok => Event.busWrite s.cfg.devAddr (s.cfg.regChBase + BitVec.ofNat 8 (4 * k.val))
        [0, 0, BitVec.ofNat 8 (off.toNat % 256), BitVec.ofNat 8 (off.toNat / 256)] ok
      (s.pulsev[g] = false → Completes (.pwmsetr g.val) s s [.rsp .noData 0]) ∧
      (s.pulsev[g] = true → s.freq = 0 → Completes (.pwmsetr g.val) s s [.rsp .skipped 0]) ∧
      (s.pulsev[g] = true → s.freq ≠ 0 → s.env.busReply.ok = true → Completes (.pwmsetr g.val) s
        { s with duty := s.duty.set k off, dutyv := s.dutyv.set k true }
        [burst true, .rsp .ok (BitVec.ofNat 16 off.toNat)]) ∧
      (s.pulsev[g] = true → s.freq ≠ 0 → s.env.busReply.ok = false →
        Completes (.pwmsetr g.val) s s [burst false, .rsp .busFail (BitVec.ofNat 16 off.toNat)]))

/-! ### Pipeline -/

/-- 45_pipeline.md R241 stage 1: a rejected frame changes nothing and touches no bus. -/
def Obligations.ApplyRejectChangesNothing : Prop :=
  ∀ s : State,
    (s.cfg.frameMax < s.rxlen.toNat → Completes .apply s s [.rsp .tooLong 0]) ∧
    (s.rxlen.toNat ≤ s.cfg.frameMax → ∀ st,
      decodeFrame s.cfg ((List.range s.rxlen.toNat).map s.rx.read) = .reject st →
      Completes .apply s s [.rsp st 0])

/-- 45_pipeline.md R241 stage 2, R242: an accepted frame with FREQ not 0: five pulses stored, five
bursts in order whatever fails, DUTY of exactly the answered ones, and the mask of the failed. -/
def Obligations.ApplyWritesFiveFingers : Prop :=
  ∀ (s : State) (hasSeq : Bool) (seq : Byte) (v : Vector Byte 5),
    s.cfg.Valid → s.rxlen.toNat ≤ s.cfg.frameMax → s.freq ≠ 0 →
    decodeFrame s.cfg ((List.range s.rxlen.toNat).map s.rx.read) = .accept hasSeq seq v →
    let ok := fun f : Fin 5 => (s.replyAt f.val).ok
    let p := fun f : Fin 5 => valueToPulse s.cfg f v[f].toNat
    let k := fun f : Fin 5 => s.cfg.servoCh[f]
    let off := fun f : Fin 5 => BitVec.ofNat 12 (offCount s.cfg s.freq.toNat (p f))
    let burst := fun f : Fin 5 =>
      Event.busWrite s.cfg.devAddr (s.cfg.regChBase + BitVec.ofNat 8 (4 * (k f).val))
        [0, 0, BitVec.ofNat 8 ((off f).toNat % 256), BitVec.ofNat 8 ((off f).toNat / 256)] (ok f)
    let bit := fun f : Fin 5 => if ok f then 0 else 2 ^ f.val
    let mask := bit 0 + bit 1 + bit 2 + bit 3 + bit 4
    let write := fun (u : State) (f : Fin 5) =>
      if ok f then { u with duty := u.duty.set (k f) (off f), dutyv := u.dutyv.set (k f) true } else u
    Completes .apply s
      { ([0, 1, 2, 3, 4] : List (Fin 5)).foldl write s with
        val := v, valv := true, seqv := hasSeq, seq := if hasSeq then seq else s.seq
        pulse := #v[BitVec.ofNat 16 (p 0), BitVec.ofNat 16 (p 1), BitVec.ofNat 16 (p 2),
          BitVec.ofNat 16 (p 3), BitVec.ofNat 16 (p 4)]
        pulsev := #v[true, true, true, true, true] }
      [burst 0, burst 1, burst 2, burst 3, burst 4,
       if mask = 0 then .rsp .ok 0 else .rsp .busFail (BitVec.ofNat 16 mask)]

/-- 45_pipeline.md R243: an accepted frame with FREQ = 0: VAL, SEQ and PULSE are stored, no burst is
sent, DUTY is as before, and the status is SKIPPED. -/
def Obligations.ApplySkipsWithoutFrequency : Prop :=
  ∀ (s : State) (hasSeq : Bool) (seq : Byte) (v : Vector Byte 5),
    s.rxlen.toNat ≤ s.cfg.frameMax → s.freq = 0 →
    decodeFrame s.cfg ((List.range s.rxlen.toNat).map s.rx.read) = .accept hasSeq seq v →
    let p := fun f : Fin 5 => BitVec.ofNat 16 (valueToPulse s.cfg f v[f].toNat)
    Completes .apply s
      { s with val := v, valv := true, seqv := hasSeq, seq := if hasSeq then seq else s.seq
               pulse := #v[p 0, p 1, p 2, p 3, p 4]
               pulsev := #v[true, true, true, true, true] }
      [.rsp .skipped 0]

/-- 45_pipeline.md R244: APPLY leaves the state and the bus transactions of DEC and then MAPV f,
PWMSETR f for every finger (TICK apart, which ticks during the commands may set); on a rejected frame
exactly what DEC leaves. -/
def Obligations.ApplyEqualsCommandSequence : Prop :=
  ∀ (s d : State) (st : Status) (x : Word16), s.cfg.Valid → exec .dec s = .next d →
    d.response = some (st, x) →
    (st = .ok → ∃ a b, exec .apply s = .next a ∧
      execAll [.dec, .mapv 0, .pwmsetr 0, .mapv 1, .pwmsetr 1, .mapv 2, .pwmsetr 2,
        .mapv 3, .pwmsetr 3, .mapv 4, .pwmsetr 4] s = .next b ∧
      a.still = b.still ∧ a.busTrace = b.busTrace ∧ a.env.busReplies = b.env.busReplies) ∧
    (st ≠ .ok → exec .apply s = .next d)

/-! ### Rules of the whole machine -/

/-- 10_state.md R29, R30; 44_pwm.md R208; 60_exceptions.md R256: without `rst`, PHASE leaves UNINIT only
by PWMINIT, to READY or DEAD, and once it has left, PHASE and FREQ never change. -/
def Obligations.PhaseLeftOnlyByReset : Prop :=
  ∀ s t : State, step s = .next t → s.env.input.head? ≠ some .rst →
    (∀ w n, s.env.input.head? ≠ some (.cmdCut w n)) →
    (s.phase ≠ .uninit → t.phase = s.phase ∧ t.freq = s.freq) ∧
    (t.phase ≠ s.phase → ∃ w hz, s.env.input.head? = some (.cmd w) ∧ decode w = .ok (.pwminit hz))

/-- 44_pwm.md R212; 70_reset_and_hazards.md R298: while FREQ = 0 no command sends a burst. -/
def Obligations.NoBurstWithoutFrequency : Prop :=
  ∀ (i : Instr) (s t : State), s.freq = 0 → exec i s = .next t →
    ∃ evs, t.events = s.events ++ evs ∧ evs.all (fun e => !e.isBurst) = true

/-- 44_pwm.md R205, R208; 70_reset_and_hazards.md R291: once PHASE has left UNINIT no command reads the
chip or writes a single register of it: every transaction is a burst at a channel's block. -/
def Obligations.OnlyBurstsAfterInit : Prop :=
  ∀ (i : Instr) (s t : State), s.phase ≠ .uninit → exec i s = .next t →
    ∃ evs, t.events = s.events ++ evs ∧ ∀ e ∈ evs, e.isBus = true →
      ∃ (k : Fin 16) (off : BitVec 12) (ok : Bool),
        e = .busWrite s.cfg.devAddr (channelReg s.cfg k) (burstBytes off) ok

/-- 44_pwm.md R219: only ACQ and PWMINIT wait; the per-frame path does not. -/
def Obligations.NoWaitOnHotPath : Prop :=
  ∀ (i : Instr) (s t : State), i ≠ .acq → (∀ hz, i ≠ .pwminit hz) → exec i s = .next t →
    ∃ evs, t.events = s.events ++ evs ∧ evs.all (fun e => !e.isWait) = true

/-- 10_state.md R42, the write half of the access matrix: each state element is left alone by every
command that has no "w" in its row; the parameters by all. -/
def Obligations.CommandsKeepWhatTheyDoNotWrite : Prop :=
  ∀ (i : Instr) (s t : State), exec i s = .next t →
    t.cfg = s.cfg ∧
    ((∀ a v, i ≠ .wrreg a v) → i ≠ .acq → t.reading = s.reading ∧ t.readv = s.readv) ∧
    (i ≠ .dec → i ≠ .apply →
      t.val = s.val ∧ t.valv = s.valv ∧ t.seq = s.seq ∧ t.seqv = s.seqv) ∧
    ((∀ f, i ≠ .mapv f) → (∀ f v, i ≠ .mapi f v) → i ≠ .apply →
      t.pulse = s.pulse ∧ t.pulsev = s.pulsev) ∧
    ((∀ c us, i ≠ .pwmset c us) → (∀ f, i ≠ .pwmsetr f) → i ≠ .apply →
      t.duty = s.duty ∧ t.dutyv = s.dutyv) ∧
    ((∀ a v, i ≠ .wrreg a v) →
      t.rawMin = s.rawMin ∧ t.rawMax = s.rawMax ∧ t.settle = s.settle ∧ t.rxlen = s.rxlen) ∧
    (i ≠ .acq → t.sel = s.sel) ∧
    ((∀ hz, i ≠ .pwminit hz) → t.freq = s.freq ∧ t.phase = s.phase) ∧
    (i ≠ .tack → s.tick = true → t.tick = true) ∧
    ((∀ w q, i ≠ .enc w q) → t.txlen = s.txlen ∧ ∀ a, t.tx.read a = s.tx.read a) ∧
    ((∀ a b, i ≠ .rxwr a b) → ∀ a, t.rx.read a = s.rx.read a)

/-- 10_state.md R36: the valid flags are "never cleared but by reset". -/
def Obligations.ValidFlagsStaySet : Prop :=
  ∀ s t : State, step s = .next t → s.env.input.head? ≠ some .rst →
    (∀ w n, s.env.input.head? ≠ some (.cmdCut w n)) →
    (∀ i : Fin 5, s.readv[i] = true → t.readv[i] = true) ∧ (s.valv = true → t.valv = true) ∧
    (∀ f : Fin 5, s.pulsev[f] = true → t.pulsev[f] = true) ∧
    (∀ c : Fin 16, s.dutyv[c] = true → t.dutyv[c] = true)

/-- 10_state.md R36, R41 and 93_implementation_defined.md U16: what a register without a value holds is
never seen: two machines that differ in nothing else give the same events and stay so. This is why
the reset contents of log 4 are without effect. -/
def Obligations.UnwrittenContentsUnobservable : Prop :=
  ∀ (i : Instr) (s u t : State), SameVouched s u → exec i s = .next t →
    ∃ u', exec i u = .next u' ∧ SameVouched t u' ∧ u'.env = t.env
end

