-- ==== Sys2Proof/Laws/Arith.lean ====
section
/-! SUPPORT. What `clamp` and `rdiv` of 00_scope.md R19 do. -/

namespace Sys2Proof.Machine

/-- `clamp` answers a bound or its argument, and lies between the bounds. -/
theorem clamp_nat_mem {x lo hi : Nat} (h : lo ≤ hi) : lo ≤ clamp x lo hi ∧ clamp x lo hi ≤ hi := by
  unfold clamp
  split
  · exact ⟨Nat.le_refl _, h⟩
  · split <;> omega

/-- `clamp` on integers lies between the bounds. -/
theorem clamp_int_mem {x lo hi : Int} (h : lo ≤ hi) : lo ≤ clamp x lo hi ∧ clamp x lo hi ≤ hi := by
  unfold clamp
  split
  · exact ⟨Int.le_refl _, h⟩
  · split <;> omega

/-- An argument between the bounds is left alone. -/
theorem clamp_int_of_mem {x lo hi : Int} (h1 : lo ≤ x) (h2 : x ≤ hi) : clamp x lo hi = x := by
  unfold clamp
  rw [if_neg (by omega), if_neg (by omega)]

/-- `clamp` keeps order. -/
theorem clamp_nat_mono {x y lo hi : Nat} (h : x ≤ y) (hl : lo ≤ hi) : clamp x lo hi ≤ clamp y lo hi := by
  unfold clamp
  split <;> split <;> (try split) <;> (try split) <;> omega

/-- `rdiv` is one of the two integers about the quotient. -/
theorem rdiv_cases (a b : Nat) :
    rdiv a b = a / b ∧ 2 * (a % b) ≤ b ∨ rdiv a b = a / b + 1 ∧ b ≤ 2 * (a % b) := by
  unfold rdiv
  simp only
  split
  · exact .inr ⟨rfl, by omega⟩
  · split
    · exact .inl ⟨rfl, by omega⟩
    · split
      · exact .inl ⟨rfl, by omega⟩
      · exact .inr ⟨rfl, by omega⟩

/-- `rdiv(a, b)` is within half of a/b. -/
theorem rdiv_near {a b : Nat} (hb : 0 < b) :
    2 * (rdiv a b * b) ≤ 2 * a + b ∧ 2 * a ≤ 2 * (rdiv a b * b) + b := by
  have hdm := Nat.div_add_mod a b
  have hc : a / b * b = b * (a / b) := Nat.mul_comm _ _
  rcases rdiv_cases a b with ⟨h, h'⟩ | ⟨h, h'⟩
  · rw [h]; omega
  · rw [h, Nat.add_mul, Nat.one_mul]
    have := Nat.mod_lt a hb
    omega

/-- Nothing rounds to zero. -/
@[simp] theorem rdiv_zero (b : Nat) : rdiv 0 b = 0 := by
  unfold rdiv
  simp only [Nat.zero_div, Nat.zero_mod, Nat.mul_zero]
  split
  · omega
  · split <;> rfl

/-- An exact quotient is not rounded. -/
theorem rdiv_mul_self {b : Nat} (hb : 0 < b) (k : Nat) : rdiv (k * b) b = k := by
  unfold rdiv
  simp only [Nat.mul_div_cancel k hb, Nat.mul_mod_left, Nat.mul_zero]
  rw [if_neg (by omega), if_pos hb]

/-- A numerator at most k times the denominator rounds to at most k. -/
theorem rdiv_le {a b k : Nat} (hb : 0 < b) (h : a ≤ k * b) : rdiv a b ≤ k := by
  have h1 := (rdiv_near (a := a) hb).1
  rcases rdiv_cases a b with ⟨h2, _⟩ | ⟨h2, h3⟩
  · rw [h2]; exact (Nat.div_le_iff_le_mul_add_pred hb).2 (by rw [Nat.mul_comm]; omega)
  · rw [h2]
    have hm := Nat.mod_lt a hb
    have hd := Nat.div_add_mod a b
    by_contra hk
    have : k ≤ a / b := by omega
    have : k * b ≤ b * (a / b) := by rw [Nat.mul_comm b]; exact Nat.mul_le_mul_right b this
    omega

end Sys2Proof.Machine
end

