-- ==== Sys2Proof/Laws/Decode.lean ====
section
/-! SUPPORT. The word a command is written as, field by field (30_encoding.md R80, R87). -/

namespace Sys2Proof

/-- The number a word of three fields stands for (R80). -/
theorem toNat_append_fields (x y : BitVec 8) (z : BitVec 16) :
    (x ++ (y ++ z)).toNat = x.toNat * 2 ^ 24 + y.toNat * 2 ^ 16 + z.toNat := by
  rw [BitVec.toNat_append, BitVec.toNat_append, ← Nat.shiftLeft_add_eq_or_of_lt z.isLt,
    ← Nat.shiftLeft_add_eq_or_of_lt, Nat.shiftLeft_eq, Nat.shiftLeft_eq]
  · omega
  · rw [Nat.shiftLeft_eq]; omega

/-- "op << 24 | a << 16 | imm" is the sum of its fields where each fits (R87). -/
theorem commandWord_toNat {op a imm : Nat} (h1 : op < 256) (h2 : a < 256) (h3 : imm < 65536) :
    (commandWord op a imm).toNat = op * 2 ^ 24 + a * 2 ^ 16 + imm := by
  have p1 : (BitVec.ofNat 32 imm).toNat = imm := by simp; omega
  have p2 : (BitVec.ofNat 32 a <<< 16).toNat = a <<< 16 := by simp [Nat.shiftLeft_eq]; omega
  have p3 : (BitVec.ofNat 32 op <<< 24).toNat = op <<< 24 := by simp [Nat.shiftLeft_eq]; omega
  unfold commandWord
  rw [BitVec.toNat_or, BitVec.toNat_or, p1, p2, p3, Nat.or_assoc,
    ← Nat.shiftLeft_add_eq_or_of_lt (show imm < 2 ^ 16 from h3), ← Nat.shiftLeft_add_eq_or_of_lt,
    Nat.shiftLeft_eq, Nat.shiftLeft_eq, Nat.add_assoc]
  rw [Nat.shiftLeft_eq]; omega

/-- A command word is its three fields side by side. -/
theorem commandWord_eq {op a imm : Nat} (h1 : op < 256) (h2 : a < 256) (h3 : imm < 65536) :
    commandWord op a imm = BitVec.ofNat 8 op ++ (BitVec.ofNat 8 a ++ BitVec.ofNat 16 imm) := by
  apply BitVec.eq_of_toNat_eq
  rw [commandWord_toNat h1 h2 h3]
  refine Eq.trans ?_ (toNat_append_fields _ _ _).symm
  simp; omega

/-- A row selects a word if it does so field by field. -/
theorem Opcode.selects_commandWord (o : Opcode) {op a imm : Nat} (mo ma : BitVec 8) (mi : BitVec 16)
    (po pa : BitVec 8) (pi : BitVec 16) (h1 : op < 256) (h2 : a < 256) (h3 : imm < 65536)
    (hm : o.mask = mo ++ (ma ++ mi)) (hp : o.pattern = po ++ (pa ++ pi))
    (e1 : BitVec.ofNat 8 op &&& mo = po) (e2 : BitVec.ofNat 8 a &&& ma = pa)
    (e3 : BitVec.ofNat 16 imm &&& mi = pi) : o.selects (commandWord op a imm) = true := by
  unfold Opcode.selects
  rw [beq_iff_eq, hm, hp, commandWord_eq h1 h2 h3, ← e1, ← e2, ← e3]
  refine Eq.trans BitVec.and_append ?_
  exact congrArg (fun rest : BitVec 24 => (BitVec.ofNat 8 op &&& mo) ++ rest) BitVec.and_append

/-- A byte has no bit above its eight. -/
theorem byte_and_high {b : Nat} (h : b < 256) : BitVec.ofNat 16 b &&& 0xFF00#16 = 0#16 := by
  have e : BitVec.ofNat 16 b = 0#8 ++ BitVec.ofNat 8 b := by
    apply BitVec.eq_of_toNat_eq
    refine Eq.trans ?_ (BitVec.toNat_append _ _).symm
    simp; omega
  rw [e, show (0xFF00#16) = 0xFF#8 ++ 0x00#8 by decide]
  refine Eq.trans BitVec.and_append ?_
  simp

/-- The flag with_seq lies in a[0] alone. -/
theorem flag_and_high (w : Bool) : BitVec.ofNat 8 w.toNat &&& 0xFE#8 = 0#8 := by
  cases w <;> decide

end Sys2Proof
end

