-- ==== Sys2Proof/Laws/Memory.lean ====
section
/-! SUPPORT. The laws of the byte memories RX and TX (20_memory.md R61): a read after a write gives the
byte written, a write leaves every other byte alone, and every operation keeps the canonical form. -/

namespace Sys2Proof.Machine

/-- An address below every listed one reads as 0x00. -/
theorem Memory.read_eq_zero_of_all_lt (m : Memory) (a : Nat)
    (h : ∀ c ∈ m, a < c.1) : m.read a = 0 := by
  induction m with
  | nil => rfl
  | cons c m ih =>
    obtain ⟨x, b⟩ := c
    have hx : a < x := h (x, b) (by simp)
    have : a ≠ x := by omega
    simp only [Memory.read, if_neg this]
    exact ih fun c hc => h c (by simp [hc])

/-- What canonical form says of a memory with a first entry. -/
theorem Memory.wf_cons {a : Nat} {b : Byte} {m : Memory} :
    Memory.wf ((a, b) :: m) = true ↔ b ≠ 0 ∧ (∀ c ∈ m, a < c.1) ∧ m.wf = true := by
  simp [Memory.wf, and_assoc]

/-- A write changes one byte: a read at its address gives the byte, any other read is as before. -/
theorem Memory.read_write {m : Memory} (h : m.wf = true) (a x : Nat) (v : Byte) :
    (m.write a v).read x = if x = a then v else m.read x := by
  induction m with
  | nil =>
    unfold Memory.write
    split
    · next hv => simp [Memory.read, hv]
    · by_cases hx : x = a <;> simp [Memory.read, hx]
  | cons c m ih =>
    obtain ⟨y, b⟩ := c
    obtain ⟨hb, hlt, hm⟩ := Memory.wf_cons.1 h
    have hzero : ∀ z, z ≤ y → Memory.read m z = 0 := fun z hz =>
      Memory.read_eq_zero_of_all_lt m z fun c hc => Nat.lt_of_le_of_lt hz (hlt c hc)
    unfold Memory.write
    split
    · next hay =>
      split
      · next hv =>
        by_cases hx : x = a
        · have : a ≠ y := by omega
          simp [Memory.read, hx, this, hv, hzero a (by omega)]
        · simp [hx]
      · by_cases hx : x = a <;> simp [Memory.read, hx]
    · next hay =>
      split
      · next hae =>
        subst hae
        split
        · next hv =>
          by_cases hx : x = a
          · simp [hx, hv, hzero a (Nat.le_refl a)]
          · simp [Memory.read, hx]
        · by_cases hx : x = a <;> simp [Memory.read, hx]
      · next hae =>
        by_cases hxy : x = y
        · have : x ≠ a := by omega
          simp [Memory.read, hxy, Ne.symm hae]
        · simp [Memory.read, hxy, ih hm]

/-- Where a written entry can come from. -/
theorem Memory.mem_write {m : Memory} {a : Nat} {v : Byte} {c : Host.Cell}
    (h : c ∈ m.write a v) : c ∈ m ∨ c.1 = a := by
  induction m with
  | nil =>
    unfold Memory.write at h
    split at h
    · simp at h
    · simp at h; simp [h]
  | cons d m ih =>
    obtain ⟨y, b⟩ := d
    unfold Memory.write at h
    split at h
    · split at h
      · exact .inl h
      · rcases List.mem_cons.1 h with rfl | h
        · exact .inr rfl
        · exact .inl h
    · split at h
      · split at h
        · exact .inl (by simp [h])
        · rcases List.mem_cons.1 h with rfl | h
          · exact .inr rfl
          · exact .inl (by simp [h])
      · rcases List.mem_cons.1 h with rfl | h
        · exact .inl (by simp)
        · rcases ih h with h | h
          · exact .inl (by simp [h])
          · exact .inr h

/-- A write keeps the canonical form. -/
theorem Memory.write_wf {m : Memory} (h : m.wf = true) (a : Nat) (v : Byte) :
    (m.write a v).wf = true := by
  induction m with
  | nil =>
    unfold Memory.write
    split <;> simp_all [Memory.wf]
  | cons c m ih =>
    obtain ⟨y, b⟩ := c
    obtain ⟨hb, hlt, hm⟩ := Memory.wf_cons.1 h
    unfold Memory.write
    split
    · next hay =>
      split
      · exact h
      · next hv =>
        refine Memory.wf_cons.2 ⟨hv, fun c hc => ?_, h⟩
        rcases List.mem_cons.1 hc with rfl | hc
        · exact hay
        · exact Nat.lt_trans hay (hlt c hc)
    · next hay =>
      split
      · next hae =>
        split
        · exact hm
        · next hv => exact Memory.wf_cons.2 ⟨hv, hae ▸ hlt, hm⟩
      · next hae =>
        refine Memory.wf_cons.2 ⟨hb, fun c hc => ?_, ih hm⟩
        rcases Memory.mem_write hc with hc | hc
        · exact hlt c hc
        · omega

/-- A write inside a space of `n` bytes keeps the memory inside it. -/
theorem Memory.write_within {m : Memory} {n a : Nat} (h : m.within n = true) (ha : a < n) (v : Byte) :
    (m.write a v).within n = true := by
  simp only [Memory.within, List.all_eq_true, decide_eq_true_eq] at h ⊢
  intro c hc
  rcases Memory.mem_write hc with hc | hc
  · exact h c hc
  · omega

/-- Bytes stored at ascending addresses keep the canonical form. -/
theorem Memory.writeBytes_wf {m : Memory} (h : m.wf = true) (a : Nat) (bs : List Byte) :
    (m.writeBytes a bs).wf = true := by
  induction bs generalizing m a with
  | nil => exact h
  | cons b bs ih => exact ih (Memory.write_wf h a b) (a + 1)

/-- Bytes stored inside a space keep the memory inside it. -/
theorem Memory.writeBytes_within {m : Memory} {n a : Nat} (h : m.within n = true) (bs : List Byte)
    (ha : a + bs.length ≤ n) : (m.writeBytes a bs).within n = true := by
  induction bs generalizing m a with
  | nil => exact h
  | cons b bs ih =>
    simp only [List.length_cons] at ha
    exact ih (Memory.write_within h (by omega) b) (by omega)

/-- Bytes stored from `a` up: a read inside gives the stored byte, any other read is as before. -/
theorem Memory.read_writeBytes {m : Memory} (h : m.wf = true) (a x : Nat) (bs : List Byte) :
    (m.writeBytes a bs).read x =
      if h : a ≤ x ∧ x < a + bs.length then bs[x - a] else m.read x := by
  induction bs generalizing m a with
  | nil => simp [Memory.writeBytes]
  | cons b bs ih =>
    rw [Memory.writeBytes, ih (Memory.write_wf h a b) (a + 1)]
    by_cases hx : x = a
    · subst hx
      simp [Memory.read_write h]
    · by_cases hin : a ≤ x ∧ x < a + (b :: bs).length
      · have h1 : a + 1 ≤ x ∧ x < a + 1 + bs.length := by
          simp only [List.length_cons] at hin; omega
        rw [dif_pos h1, dif_pos hin]
        have : x - a = (x - (a + 1)) + 1 := by omega
        simp [this]
      · have h1 : ¬(a + 1 ≤ x ∧ x < a + 1 + bs.length) := by
          simp only [List.length_cons] at hin; omega
        rw [dif_neg h1, dif_neg hin, Memory.read_write h]
        simp [hx]

/-- The bytes of RX below a length: one for each address. -/
@[simp] theorem Memory.length_firstBytes (m : Memory) (n : Nat) : (m.firstBytes n).length = n := by
  simp [Memory.firstBytes]

/-- Byte `i` of the first bytes is the byte at address `i`. -/
@[simp] theorem Memory.getElem_firstBytes (m : Memory) (n i : Nat) (h : i < (m.firstBytes n).length) :
    (m.firstBytes n)[i] = m.read i := by
  simp [Memory.firstBytes]

/-- The reset memory is in canonical form. -/
theorem Memory.nil_wf : Memory.wf [] = true := rfl

end Sys2Proof.Machine
end

