-- ==== Sys2Proof/Laws/Operands.lean ====
section
/-! SUPPORT. The operand forms (10_state.md R35; 60_exceptions.md R250): which finger, channel and register
indices name something, and what they name. -/

namespace Sys2Proof.Machine

/-- A finger index 0 to 4 names its finger. -/
@[simp] theorem finger?_val (f : Fin 5) : finger? f.val = some f := by simp [finger?]

/-- A finger index above 4 names none. -/
theorem finger?_eq_none {f : Nat} (h : 4 < f) : finger? f = none := by
  simp [finger?]; omega

/-- A channel index 0 to 15 names its channel. -/
@[simp] theorem channel?_val (c : Fin 16) : channel? c.val = some c := by simp [channel?]

/-- A channel index above 15 names none. -/
theorem channel?_eq_none {c : Nat} (h : 15 < c) : channel? c = none := by
  simp [channel?]; omega

/-- Every register has the index that the map gives it. -/
@[simp] theorem Reg.ofIndex_index (r : Reg) : Reg.ofIndex r.index = some r := by
  cases r with
  | reading i => revert i; decide
  | val f => revert f; decide
  | pulse f => revert f; decide
  | duty c => revert c; decide
  | _ => rfl

/-- The unassigned indices of R35 name no register. -/
theorem Reg.ofIndex_unassigned {a : Nat}
    (h : a = 0 ∨ (0x0B ≤ a ∧ a ≤ 0x0F) ∨ (0x15 ≤ a ∧ a ≤ 0x17) ∨ (0x1D ≤ a ∧ a ≤ 0x1F) ∨
      (0x25 ≤ a ∧ a ≤ 0x2F) ∨ 0x40 ≤ a) : Reg.ofIndex a = none := by
  unfold Reg.ofIndex
  iterate 14 rw [if_neg (by omega)]

/-- An index below 0x40 that names a register is that register's. -/
theorem Reg.index_of_lt : ∀ a : Fin 64, (Reg.ofIndex a.val).all (fun r => r.index == a.val) = true := by
  decide

/-- An index that names a register is that register's: no two indices name one register. -/
theorem Reg.index_of_ofIndex {a : Nat} {r : Reg} (h : Reg.ofIndex a = some r) : r.index = a := by
  by_cases ha : a < 64
  · have := Reg.index_of_lt ⟨a, ha⟩
    simpa [h] using this
  · rw [Reg.ofIndex_unassigned (by omega)] at h
    simp at h

end Sys2Proof.Machine
end

