-- ==== Sys2Proof/Laws/State.lean ====
section
/-! SUPPORT. One lemma per field per update of State: what the named operations write and what they
leave. All are true by rfl, and simp uses them. -/

namespace Sys2Proof.Machine

/-- `done` is a response with status OK. -/
@[simp] theorem State.done_eq (s : State) (d : Word16) : s.done d = s.respond .ok d := rfl

/-- `raise` is a response with its status. -/
@[simp] theorem State.raise_eq (s : State) (st : Status) (d : Word16) : s.raise st d = s.respond st d := rfl

/-! ### emit -/

@[simp] theorem State.emit_cfg (s : State) (ev : Event) : (s.emit ev).cfg = s.cfg := rfl
@[simp] theorem State.emit_reading (s : State) (ev : Event) : (s.emit ev).reading = s.reading := rfl
@[simp] theorem State.emit_readv (s : State) (ev : Event) : (s.emit ev).readv = s.readv := rfl
@[simp] theorem State.emit_val (s : State) (ev : Event) : (s.emit ev).val = s.val := rfl
@[simp] theorem State.emit_valv (s : State) (ev : Event) : (s.emit ev).valv = s.valv := rfl
@[simp] theorem State.emit_seq (s : State) (ev : Event) : (s.emit ev).seq = s.seq := rfl
@[simp] theorem State.emit_seqv (s : State) (ev : Event) : (s.emit ev).seqv = s.seqv := rfl
@[simp] theorem State.emit_pulse (s : State) (ev : Event) : (s.emit ev).pulse = s.pulse := rfl
@[simp] theorem State.emit_pulsev (s : State) (ev : Event) : (s.emit ev).pulsev = s.pulsev := rfl
@[simp] theorem State.emit_duty (s : State) (ev : Event) : (s.emit ev).duty = s.duty := rfl
@[simp] theorem State.emit_dutyv (s : State) (ev : Event) : (s.emit ev).dutyv = s.dutyv := rfl
@[simp] theorem State.emit_rawMin (s : State) (ev : Event) : (s.emit ev).rawMin = s.rawMin := rfl
@[simp] theorem State.emit_rawMax (s : State) (ev : Event) : (s.emit ev).rawMax = s.rawMax := rfl
@[simp] theorem State.emit_settle (s : State) (ev : Event) : (s.emit ev).settle = s.settle := rfl
@[simp] theorem State.emit_sel (s : State) (ev : Event) : (s.emit ev).sel = s.sel := rfl
@[simp] theorem State.emit_freq (s : State) (ev : Event) : (s.emit ev).freq = s.freq := rfl
@[simp] theorem State.emit_phase (s : State) (ev : Event) : (s.emit ev).phase = s.phase := rfl
@[simp] theorem State.emit_tick (s : State) (ev : Event) : (s.emit ev).tick = (s.tick || decide (0 < s.env.ticksNow)) := rfl
@[simp] theorem State.emit_rxlen (s : State) (ev : Event) : (s.emit ev).rxlen = s.rxlen := rfl
@[simp] theorem State.emit_txlen (s : State) (ev : Event) : (s.emit ev).txlen = s.txlen := rfl
@[simp] theorem State.emit_rx (s : State) (ev : Event) : (s.emit ev).rx = s.rx := rfl
@[simp] theorem State.emit_tx (s : State) (ev : Event) : (s.emit ev).tx = s.tx := rfl
@[simp] theorem State.emit_busy (s : State) (ev : Event) : (s.emit ev).busy = s.busy := rfl
@[simp] theorem State.emit_env (s : State) (ev : Event) : (s.emit ev).env = (s.env.record ev) := rfl

/-! ### respond -/

@[simp] theorem State.respond_cfg (s : State) (st : Status) (d : Word16) : (s.respond st d).cfg = s.cfg := rfl
@[simp] theorem State.respond_reading (s : State) (st : Status) (d : Word16) : (s.respond st d).reading = s.reading := rfl
@[simp] theorem State.respond_readv (s : State) (st : Status) (d : Word16) : (s.respond st d).readv = s.readv := rfl
@[simp] theorem State.respond_val (s : State) (st : Status) (d : Word16) : (s.respond st d).val = s.val := rfl
@[simp] theorem State.respond_valv (s : State) (st : Status) (d : Word16) : (s.respond st d).valv = s.valv := rfl
@[simp] theorem State.respond_seq (s : State) (st : Status) (d : Word16) : (s.respond st d).seq = s.seq := rfl
@[simp] theorem State.respond_seqv (s : State) (st : Status) (d : Word16) : (s.respond st d).seqv = s.seqv := rfl
@[simp] theorem State.respond_pulse (s : State) (st : Status) (d : Word16) : (s.respond st d).pulse = s.pulse := rfl
@[simp] theorem State.respond_pulsev (s : State) (st : Status) (d : Word16) : (s.respond st d).pulsev = s.pulsev := rfl
@[simp] theorem State.respond_duty (s : State) (st : Status) (d : Word16) : (s.respond st d).duty = s.duty := rfl
@[simp] theorem State.respond_dutyv (s : State) (st : Status) (d : Word16) : (s.respond st d).dutyv = s.dutyv := rfl
@[simp] theorem State.respond_rawMin (s : State) (st : Status) (d : Word16) : (s.respond st d).rawMin = s.rawMin := rfl
@[simp] theorem State.respond_rawMax (s : State) (st : Status) (d : Word16) : (s.respond st d).rawMax = s.rawMax := rfl
@[simp] theorem State.respond_settle (s : State) (st : Status) (d : Word16) : (s.respond st d).settle = s.settle := rfl
@[simp] theorem State.respond_sel (s : State) (st : Status) (d : Word16) : (s.respond st d).sel = s.sel := rfl
@[simp] theorem State.respond_freq (s : State) (st : Status) (d : Word16) : (s.respond st d).freq = s.freq := rfl
@[simp] theorem State.respond_phase (s : State) (st : Status) (d : Word16) : (s.respond st d).phase = s.phase := rfl
@[simp] theorem State.respond_tick (s : State) (st : Status) (d : Word16) : (s.respond st d).tick = (s.tick || decide (0 < s.env.ticksNow)) := rfl
@[simp] theorem State.respond_rxlen (s : State) (st : Status) (d : Word16) : (s.respond st d).rxlen = s.rxlen := rfl
@[simp] theorem State.respond_txlen (s : State) (st : Status) (d : Word16) : (s.respond st d).txlen = s.txlen := rfl
@[simp] theorem State.respond_rx (s : State) (st : Status) (d : Word16) : (s.respond st d).rx = s.rx := rfl
@[simp] theorem State.respond_tx (s : State) (st : Status) (d : Word16) : (s.respond st d).tx = s.tx := rfl
@[simp] theorem State.respond_busy (s : State) (st : Status) (d : Word16) : (s.respond st d).busy = false := rfl
@[simp] theorem State.respond_env (s : State) (st : Status) (d : Word16) : (s.respond st d).env = (s.env.record (.rsp st d)) := rfl

/-! ### select -/

@[simp] theorem State.select_cfg (s : State) (v : BitVec 3) : (s.select v).cfg = s.cfg := rfl
@[simp] theorem State.select_reading (s : State) (v : BitVec 3) : (s.select v).reading = s.reading := rfl
@[simp] theorem State.select_readv (s : State) (v : BitVec 3) : (s.select v).readv = s.readv := rfl
@[simp] theorem State.select_val (s : State) (v : BitVec 3) : (s.select v).val = s.val := rfl
@[simp] theorem State.select_valv (s : State) (v : BitVec 3) : (s.select v).valv = s.valv := rfl
@[simp] theorem State.select_seq (s : State) (v : BitVec 3) : (s.select v).seq = s.seq := rfl
@[simp] theorem State.select_seqv (s : State) (v : BitVec 3) : (s.select v).seqv = s.seqv := rfl
@[simp] theorem State.select_pulse (s : State) (v : BitVec 3) : (s.select v).pulse = s.pulse := rfl
@[simp] theorem State.select_pulsev (s : State) (v : BitVec 3) : (s.select v).pulsev = s.pulsev := rfl
@[simp] theorem State.select_duty (s : State) (v : BitVec 3) : (s.select v).duty = s.duty := rfl
@[simp] theorem State.select_dutyv (s : State) (v : BitVec 3) : (s.select v).dutyv = s.dutyv := rfl
@[simp] theorem State.select_rawMin (s : State) (v : BitVec 3) : (s.select v).rawMin = s.rawMin := rfl
@[simp] theorem State.select_rawMax (s : State) (v : BitVec 3) : (s.select v).rawMax = s.rawMax := rfl
@[simp] theorem State.select_settle (s : State) (v : BitVec 3) : (s.select v).settle = s.settle := rfl
@[simp] theorem State.select_sel (s : State) (v : BitVec 3) : (s.select v).sel = v := rfl
@[simp] theorem State.select_freq (s : State) (v : BitVec 3) : (s.select v).freq = s.freq := rfl
@[simp] theorem State.select_phase (s : State) (v : BitVec 3) : (s.select v).phase = s.phase := rfl
@[simp] theorem State.select_tick (s : State) (v : BitVec 3) : (s.select v).tick = (s.tick || decide (0 < s.env.ticksNow)) := rfl
@[simp] theorem State.select_rxlen (s : State) (v : BitVec 3) : (s.select v).rxlen = s.rxlen := rfl
@[simp] theorem State.select_txlen (s : State) (v : BitVec 3) : (s.select v).txlen = s.txlen := rfl
@[simp] theorem State.select_rx (s : State) (v : BitVec 3) : (s.select v).rx = s.rx := rfl
@[simp] theorem State.select_tx (s : State) (v : BitVec 3) : (s.select v).tx = s.tx := rfl
@[simp] theorem State.select_busy (s : State) (v : BitVec 3) : (s.select v).busy = s.busy := rfl

/-! ### waitCycles -/

@[simp] theorem State.waitCycles_cfg (s : State) (n : Nat) : (s.waitCycles n).cfg = s.cfg := rfl
@[simp] theorem State.waitCycles_reading (s : State) (n : Nat) : (s.waitCycles n).reading = s.reading := rfl
@[simp] theorem State.waitCycles_readv (s : State) (n : Nat) : (s.waitCycles n).readv = s.readv := rfl
@[simp] theorem State.waitCycles_val (s : State) (n : Nat) : (s.waitCycles n).val = s.val := rfl
@[simp] theorem State.waitCycles_valv (s : State) (n : Nat) : (s.waitCycles n).valv = s.valv := rfl
@[simp] theorem State.waitCycles_seq (s : State) (n : Nat) : (s.waitCycles n).seq = s.seq := rfl
@[simp] theorem State.waitCycles_seqv (s : State) (n : Nat) : (s.waitCycles n).seqv = s.seqv := rfl
@[simp] theorem State.waitCycles_pulse (s : State) (n : Nat) : (s.waitCycles n).pulse = s.pulse := rfl
@[simp] theorem State.waitCycles_pulsev (s : State) (n : Nat) : (s.waitCycles n).pulsev = s.pulsev := rfl
@[simp] theorem State.waitCycles_duty (s : State) (n : Nat) : (s.waitCycles n).duty = s.duty := rfl
@[simp] theorem State.waitCycles_dutyv (s : State) (n : Nat) : (s.waitCycles n).dutyv = s.dutyv := rfl
@[simp] theorem State.waitCycles_rawMin (s : State) (n : Nat) : (s.waitCycles n).rawMin = s.rawMin := rfl
@[simp] theorem State.waitCycles_rawMax (s : State) (n : Nat) : (s.waitCycles n).rawMax = s.rawMax := rfl
@[simp] theorem State.waitCycles_settle (s : State) (n : Nat) : (s.waitCycles n).settle = s.settle := rfl
@[simp] theorem State.waitCycles_sel (s : State) (n : Nat) : (s.waitCycles n).sel = s.sel := rfl
@[simp] theorem State.waitCycles_freq (s : State) (n : Nat) : (s.waitCycles n).freq = s.freq := rfl
@[simp] theorem State.waitCycles_phase (s : State) (n : Nat) : (s.waitCycles n).phase = s.phase := rfl
@[simp] theorem State.waitCycles_tick (s : State) (n : Nat) : (s.waitCycles n).tick = (s.tick || decide (0 < s.env.ticksNow)) := rfl
@[simp] theorem State.waitCycles_rxlen (s : State) (n : Nat) : (s.waitCycles n).rxlen = s.rxlen := rfl
@[simp] theorem State.waitCycles_txlen (s : State) (n : Nat) : (s.waitCycles n).txlen = s.txlen := rfl
@[simp] theorem State.waitCycles_rx (s : State) (n : Nat) : (s.waitCycles n).rx = s.rx := rfl
@[simp] theorem State.waitCycles_tx (s : State) (n : Nat) : (s.waitCycles n).tx = s.tx := rfl
@[simp] theorem State.waitCycles_busy (s : State) (n : Nat) : (s.waitCycles n).busy = s.busy := rfl

/-! ### sample -/

@[simp] theorem State.sample_cfg (s : State) : (s.sample.2).cfg = s.cfg := rfl
@[simp] theorem State.sample_reading (s : State) : (s.sample.2).reading = s.reading := rfl
@[simp] theorem State.sample_readv (s : State) : (s.sample.2).readv = s.readv := rfl
@[simp] theorem State.sample_val (s : State) : (s.sample.2).val = s.val := rfl
@[simp] theorem State.sample_valv (s : State) : (s.sample.2).valv = s.valv := rfl
@[simp] theorem State.sample_seq (s : State) : (s.sample.2).seq = s.seq := rfl
@[simp] theorem State.sample_seqv (s : State) : (s.sample.2).seqv = s.seqv := rfl
@[simp] theorem State.sample_pulse (s : State) : (s.sample.2).pulse = s.pulse := rfl
@[simp] theorem State.sample_pulsev (s : State) : (s.sample.2).pulsev = s.pulsev := rfl
@[simp] theorem State.sample_duty (s : State) : (s.sample.2).duty = s.duty := rfl
@[simp] theorem State.sample_dutyv (s : State) : (s.sample.2).dutyv = s.dutyv := rfl
@[simp] theorem State.sample_rawMin (s : State) : (s.sample.2).rawMin = s.rawMin := rfl
@[simp] theorem State.sample_rawMax (s : State) : (s.sample.2).rawMax = s.rawMax := rfl
@[simp] theorem State.sample_settle (s : State) : (s.sample.2).settle = s.settle := rfl
@[simp] theorem State.sample_sel (s : State) : (s.sample.2).sel = s.sel := rfl
@[simp] theorem State.sample_freq (s : State) : (s.sample.2).freq = s.freq := rfl
@[simp] theorem State.sample_phase (s : State) : (s.sample.2).phase = s.phase := rfl
@[simp] theorem State.sample_tick (s : State) : (s.sample.2).tick = (s.tick || decide (0 < s.env.ticksNow)) := rfl
@[simp] theorem State.sample_rxlen (s : State) : (s.sample.2).rxlen = s.rxlen := rfl
@[simp] theorem State.sample_txlen (s : State) : (s.sample.2).txlen = s.txlen := rfl
@[simp] theorem State.sample_rx (s : State) : (s.sample.2).rx = s.rx := rfl
@[simp] theorem State.sample_tx (s : State) : (s.sample.2).tx = s.tx := rfl
@[simp] theorem State.sample_busy (s : State) : (s.sample.2).busy = s.busy := rfl

/-! ### dropBusReply -/

@[simp] theorem State.dropBusReply_cfg (s : State) : (s.dropBusReply).cfg = s.cfg := rfl
@[simp] theorem State.dropBusReply_reading (s : State) : (s.dropBusReply).reading = s.reading := rfl
@[simp] theorem State.dropBusReply_readv (s : State) : (s.dropBusReply).readv = s.readv := rfl
@[simp] theorem State.dropBusReply_val (s : State) : (s.dropBusReply).val = s.val := rfl
@[simp] theorem State.dropBusReply_valv (s : State) : (s.dropBusReply).valv = s.valv := rfl
@[simp] theorem State.dropBusReply_seq (s : State) : (s.dropBusReply).seq = s.seq := rfl
@[simp] theorem State.dropBusReply_seqv (s : State) : (s.dropBusReply).seqv = s.seqv := rfl
@[simp] theorem State.dropBusReply_pulse (s : State) : (s.dropBusReply).pulse = s.pulse := rfl
@[simp] theorem State.dropBusReply_pulsev (s : State) : (s.dropBusReply).pulsev = s.pulsev := rfl
@[simp] theorem State.dropBusReply_duty (s : State) : (s.dropBusReply).duty = s.duty := rfl
@[simp] theorem State.dropBusReply_dutyv (s : State) : (s.dropBusReply).dutyv = s.dutyv := rfl
@[simp] theorem State.dropBusReply_rawMin (s : State) : (s.dropBusReply).rawMin = s.rawMin := rfl
@[simp] theorem State.dropBusReply_rawMax (s : State) : (s.dropBusReply).rawMax = s.rawMax := rfl
@[simp] theorem State.dropBusReply_settle (s : State) : (s.dropBusReply).settle = s.settle := rfl
@[simp] theorem State.dropBusReply_sel (s : State) : (s.dropBusReply).sel = s.sel := rfl
@[simp] theorem State.dropBusReply_freq (s : State) : (s.dropBusReply).freq = s.freq := rfl
@[simp] theorem State.dropBusReply_phase (s : State) : (s.dropBusReply).phase = s.phase := rfl
@[simp] theorem State.dropBusReply_tick (s : State) : (s.dropBusReply).tick = s.tick := rfl
@[simp] theorem State.dropBusReply_rxlen (s : State) : (s.dropBusReply).rxlen = s.rxlen := rfl
@[simp] theorem State.dropBusReply_txlen (s : State) : (s.dropBusReply).txlen = s.txlen := rfl
@[simp] theorem State.dropBusReply_rx (s : State) : (s.dropBusReply).rx = s.rx := rfl
@[simp] theorem State.dropBusReply_tx (s : State) : (s.dropBusReply).tx = s.tx := rfl
@[simp] theorem State.dropBusReply_busy (s : State) : (s.dropBusReply).busy = s.busy := rfl
@[simp] theorem State.dropBusReply_env (s : State) : (s.dropBusReply).env = { s.env with busReplies := s.env.busReplies.tail, drawn := s.env.drawn + 1 } := rfl

/-! ### busRead -/

@[simp] theorem State.busRead_cfg (s : State) (reg : Byte) : ((s.busRead reg).2).cfg = s.cfg := rfl
@[simp] theorem State.busRead_reading (s : State) (reg : Byte) : ((s.busRead reg).2).reading = s.reading := rfl
@[simp] theorem State.busRead_readv (s : State) (reg : Byte) : ((s.busRead reg).2).readv = s.readv := rfl
@[simp] theorem State.busRead_val (s : State) (reg : Byte) : ((s.busRead reg).2).val = s.val := rfl
@[simp] theorem State.busRead_valv (s : State) (reg : Byte) : ((s.busRead reg).2).valv = s.valv := rfl
@[simp] theorem State.busRead_seq (s : State) (reg : Byte) : ((s.busRead reg).2).seq = s.seq := rfl
@[simp] theorem State.busRead_seqv (s : State) (reg : Byte) : ((s.busRead reg).2).seqv = s.seqv := rfl
@[simp] theorem State.busRead_pulse (s : State) (reg : Byte) : ((s.busRead reg).2).pulse = s.pulse := rfl
@[simp] theorem State.busRead_pulsev (s : State) (reg : Byte) : ((s.busRead reg).2).pulsev = s.pulsev := rfl
@[simp] theorem State.busRead_duty (s : State) (reg : Byte) : ((s.busRead reg).2).duty = s.duty := rfl
@[simp] theorem State.busRead_dutyv (s : State) (reg : Byte) : ((s.busRead reg).2).dutyv = s.dutyv := rfl
@[simp] theorem State.busRead_rawMin (s : State) (reg : Byte) : ((s.busRead reg).2).rawMin = s.rawMin := rfl
@[simp] theorem State.busRead_rawMax (s : State) (reg : Byte) : ((s.busRead reg).2).rawMax = s.rawMax := rfl
@[simp] theorem State.busRead_settle (s : State) (reg : Byte) : ((s.busRead reg).2).settle = s.settle := rfl
@[simp] theorem State.busRead_sel (s : State) (reg : Byte) : ((s.busRead reg).2).sel = s.sel := rfl
@[simp] theorem State.busRead_freq (s : State) (reg : Byte) : ((s.busRead reg).2).freq = s.freq := rfl
@[simp] theorem State.busRead_phase (s : State) (reg : Byte) : ((s.busRead reg).2).phase = s.phase := rfl
@[simp] theorem State.busRead_tick (s : State) (reg : Byte) : ((s.busRead reg).2).tick = (s.tick || decide (0 < s.env.ticksNow)) := rfl
@[simp] theorem State.busRead_rxlen (s : State) (reg : Byte) : ((s.busRead reg).2).rxlen = s.rxlen := rfl
@[simp] theorem State.busRead_txlen (s : State) (reg : Byte) : ((s.busRead reg).2).txlen = s.txlen := rfl
@[simp] theorem State.busRead_rx (s : State) (reg : Byte) : ((s.busRead reg).2).rx = s.rx := rfl
@[simp] theorem State.busRead_tx (s : State) (reg : Byte) : ((s.busRead reg).2).tx = s.tx := rfl
@[simp] theorem State.busRead_busy (s : State) (reg : Byte) : ((s.busRead reg).2).busy = s.busy := rfl

/-! ### busWrite -/

@[simp] theorem State.busWrite_cfg (s : State) (reg : Byte) (bs : List Byte) : ((s.busWrite reg bs).2).cfg = s.cfg := rfl
@[simp] theorem State.busWrite_reading (s : State) (reg : Byte) (bs : List Byte) : ((s.busWrite reg bs).2).reading = s.reading := rfl
@[simp] theorem State.busWrite_readv (s : State) (reg : Byte) (bs : List Byte) : ((s.busWrite reg bs).2).readv = s.readv := rfl
@[simp] theorem State.busWrite_val (s : State) (reg : Byte) (bs : List Byte) : ((s.busWrite reg bs).2).val = s.val := rfl
@[simp] theorem State.busWrite_valv (s : State) (reg : Byte) (bs : List Byte) : ((s.busWrite reg bs).2).valv = s.valv := rfl
@[simp] theorem State.busWrite_seq (s : State) (reg : Byte) (bs : List Byte) : ((s.busWrite reg bs).2).seq = s.seq := rfl
@[simp] theorem State.busWrite_seqv (s : State) (reg : Byte) (bs : List Byte) : ((s.busWrite reg bs).2).seqv = s.seqv := rfl
@[simp] theorem State.busWrite_pulse (s : State) (reg : Byte) (bs : List Byte) : ((s.busWrite reg bs).2).pulse = s.pulse := rfl
@[simp] theorem State.busWrite_pulsev (s : State) (reg : Byte) (bs : List Byte) : ((s.busWrite reg bs).2).pulsev = s.pulsev := rfl
@[simp] theorem State.busWrite_duty (s : State) (reg : Byte) (bs : List Byte) : ((s.busWrite reg bs).2).duty = s.duty := rfl
@[simp] theorem State.busWrite_dutyv (s : State) (reg : Byte) (bs : List Byte) : ((s.busWrite reg bs).2).dutyv = s.dutyv := rfl
@[simp] theorem State.busWrite_rawMin (s : State) (reg : Byte) (bs : List Byte) : ((s.busWrite reg bs).2).rawMin = s.rawMin := rfl
@[simp] theorem State.busWrite_rawMax (s : State) (reg : Byte) (bs : List Byte) : ((s.busWrite reg bs).2).rawMax = s.rawMax := rfl
@[simp] theorem State.busWrite_settle (s : State) (reg : Byte) (bs : List Byte) : ((s.busWrite reg bs).2).settle = s.settle := rfl
@[simp] theorem State.busWrite_sel (s : State) (reg : Byte) (bs : List Byte) : ((s.busWrite reg bs).2).sel = s.sel := rfl
@[simp] theorem State.busWrite_freq (s : State) (reg : Byte) (bs : List Byte) : ((s.busWrite reg bs).2).freq = s.freq := rfl
@[simp] theorem State.busWrite_phase (s : State) (reg : Byte) (bs : List Byte) : ((s.busWrite reg bs).2).phase = s.phase := rfl
@[simp] theorem State.busWrite_tick (s : State) (reg : Byte) (bs : List Byte) : ((s.busWrite reg bs).2).tick = (s.tick || decide (0 < s.env.ticksNow)) := rfl
@[simp] theorem State.busWrite_rxlen (s : State) (reg : Byte) (bs : List Byte) : ((s.busWrite reg bs).2).rxlen = s.rxlen := rfl
@[simp] theorem State.busWrite_txlen (s : State) (reg : Byte) (bs : List Byte) : ((s.busWrite reg bs).2).txlen = s.txlen := rfl
@[simp] theorem State.busWrite_rx (s : State) (reg : Byte) (bs : List Byte) : ((s.busWrite reg bs).2).rx = s.rx := rfl
@[simp] theorem State.busWrite_tx (s : State) (reg : Byte) (bs : List Byte) : ((s.busWrite reg bs).2).tx = s.tx := rfl
@[simp] theorem State.busWrite_busy (s : State) (reg : Byte) (bs : List Byte) : ((s.busWrite reg bs).2).busy = s.busy := rfl

/-! ### storeReading -/

@[simp] theorem State.storeReading_cfg (s : State) (i : Fin 5) (v : Byte) : (s.storeReading i v).cfg = s.cfg := rfl
@[simp] theorem State.storeReading_reading (s : State) (i : Fin 5) (v : Byte) : (s.storeReading i v).reading = (s.reading.set i v) := rfl
@[simp] theorem State.storeReading_readv (s : State) (i : Fin 5) (v : Byte) : (s.storeReading i v).readv = (s.readv.set i true) := rfl
@[simp] theorem State.storeReading_val (s : State) (i : Fin 5) (v : Byte) : (s.storeReading i v).val = s.val := rfl
@[simp] theorem State.storeReading_valv (s : State) (i : Fin 5) (v : Byte) : (s.storeReading i v).valv = s.valv := rfl
@[simp] theorem State.storeReading_seq (s : State) (i : Fin 5) (v : Byte) : (s.storeReading i v).seq = s.seq := rfl
@[simp] theorem State.storeReading_seqv (s : State) (i : Fin 5) (v : Byte) : (s.storeReading i v).seqv = s.seqv := rfl
@[simp] theorem State.storeReading_pulse (s : State) (i : Fin 5) (v : Byte) : (s.storeReading i v).pulse = s.pulse := rfl
@[simp] theorem State.storeReading_pulsev (s : State) (i : Fin 5) (v : Byte) : (s.storeReading i v).pulsev = s.pulsev := rfl
@[simp] theorem State.storeReading_duty (s : State) (i : Fin 5) (v : Byte) : (s.storeReading i v).duty = s.duty := rfl
@[simp] theorem State.storeReading_dutyv (s : State) (i : Fin 5) (v : Byte) : (s.storeReading i v).dutyv = s.dutyv := rfl
@[simp] theorem State.storeReading_rawMin (s : State) (i : Fin 5) (v : Byte) : (s.storeReading i v).rawMin = s.rawMin := rfl
@[simp] theorem State.storeReading_rawMax (s : State) (i : Fin 5) (v : Byte) : (s.storeReading i v).rawMax = s.rawMax := rfl
@[simp] theorem State.storeReading_settle (s : State) (i : Fin 5) (v : Byte) : (s.storeReading i v).settle = s.settle := rfl
@[simp] theorem State.storeReading_sel (s : State) (i : Fin 5) (v : Byte) : (s.storeReading i v).sel = s.sel := rfl
@[simp] theorem State.storeReading_freq (s : State) (i : Fin 5) (v : Byte) : (s.storeReading i v).freq = s.freq := rfl
@[simp] theorem State.storeReading_phase (s : State) (i : Fin 5) (v : Byte) : (s.storeReading i v).phase = s.phase := rfl
@[simp] theorem State.storeReading_tick (s : State) (i : Fin 5) (v : Byte) : (s.storeReading i v).tick = s.tick := rfl
@[simp] theorem State.storeReading_rxlen (s : State) (i : Fin 5) (v : Byte) : (s.storeReading i v).rxlen = s.rxlen := rfl
@[simp] theorem State.storeReading_txlen (s : State) (i : Fin 5) (v : Byte) : (s.storeReading i v).txlen = s.txlen := rfl
@[simp] theorem State.storeReading_rx (s : State) (i : Fin 5) (v : Byte) : (s.storeReading i v).rx = s.rx := rfl
@[simp] theorem State.storeReading_tx (s : State) (i : Fin 5) (v : Byte) : (s.storeReading i v).tx = s.tx := rfl
@[simp] theorem State.storeReading_busy (s : State) (i : Fin 5) (v : Byte) : (s.storeReading i v).busy = s.busy := rfl
@[simp] theorem State.storeReading_env (s : State) (i : Fin 5) (v : Byte) : (s.storeReading i v).env = s.env := rfl

/-! ### storePulse -/

@[simp] theorem State.storePulse_cfg (s : State) (f : Fin 5) (p : Word16) : (s.storePulse f p).cfg = s.cfg := rfl
@[simp] theorem State.storePulse_reading (s : State) (f : Fin 5) (p : Word16) : (s.storePulse f p).reading = s.reading := rfl
@[simp] theorem State.storePulse_readv (s : State) (f : Fin 5) (p : Word16) : (s.storePulse f p).readv = s.readv := rfl
@[simp] theorem State.storePulse_val (s : State) (f : Fin 5) (p : Word16) : (s.storePulse f p).val = s.val := rfl
@[simp] theorem State.storePulse_valv (s : State) (f : Fin 5) (p : Word16) : (s.storePulse f p).valv = s.valv := rfl
@[simp] theorem State.storePulse_seq (s : State) (f : Fin 5) (p : Word16) : (s.storePulse f p).seq = s.seq := rfl
@[simp] theorem State.storePulse_seqv (s : State) (f : Fin 5) (p : Word16) : (s.storePulse f p).seqv = s.seqv := rfl
@[simp] theorem State.storePulse_pulse (s : State) (f : Fin 5) (p : Word16) : (s.storePulse f p).pulse = (s.pulse.set f p) := rfl
@[simp] theorem State.storePulse_pulsev (s : State) (f : Fin 5) (p : Word16) : (s.storePulse f p).pulsev = (s.pulsev.set f true) := rfl
@[simp] theorem State.storePulse_duty (s : State) (f : Fin 5) (p : Word16) : (s.storePulse f p).duty = s.duty := rfl
@[simp] theorem State.storePulse_dutyv (s : State) (f : Fin 5) (p : Word16) : (s.storePulse f p).dutyv = s.dutyv := rfl
@[simp] theorem State.storePulse_rawMin (s : State) (f : Fin 5) (p : Word16) : (s.storePulse f p).rawMin = s.rawMin := rfl
@[simp] theorem State.storePulse_rawMax (s : State) (f : Fin 5) (p : Word16) : (s.storePulse f p).rawMax = s.rawMax := rfl
@[simp] theorem State.storePulse_settle (s : State) (f : Fin 5) (p : Word16) : (s.storePulse f p).settle = s.settle := rfl
@[simp] theorem State.storePulse_sel (s : State) (f : Fin 5) (p : Word16) : (s.storePulse f p).sel = s.sel := rfl
@[simp] theorem State.storePulse_freq (s : State) (f : Fin 5) (p : Word16) : (s.storePulse f p).freq = s.freq := rfl
@[simp] theorem State.storePulse_phase (s : State) (f : Fin 5) (p : Word16) : (s.storePulse f p).phase = s.phase := rfl
@[simp] theorem State.storePulse_tick (s : State) (f : Fin 5) (p : Word16) : (s.storePulse f p).tick = s.tick := rfl
@[simp] theorem State.storePulse_rxlen (s : State) (f : Fin 5) (p : Word16) : (s.storePulse f p).rxlen = s.rxlen := rfl
@[simp] theorem State.storePulse_txlen (s : State) (f : Fin 5) (p : Word16) : (s.storePulse f p).txlen = s.txlen := rfl
@[simp] theorem State.storePulse_rx (s : State) (f : Fin 5) (p : Word16) : (s.storePulse f p).rx = s.rx := rfl
@[simp] theorem State.storePulse_tx (s : State) (f : Fin 5) (p : Word16) : (s.storePulse f p).tx = s.tx := rfl
@[simp] theorem State.storePulse_busy (s : State) (f : Fin 5) (p : Word16) : (s.storePulse f p).busy = s.busy := rfl
@[simp] theorem State.storePulse_env (s : State) (f : Fin 5) (p : Word16) : (s.storePulse f p).env = s.env := rfl

/-! ### storeDuty -/

@[simp] theorem State.storeDuty_cfg (s : State) (c : Fin 16) (off : BitVec 12) : (s.storeDuty c off).cfg = s.cfg := rfl
@[simp] theorem State.storeDuty_reading (s : State) (c : Fin 16) (off : BitVec 12) : (s.storeDuty c off).reading = s.reading := rfl
@[simp] theorem State.storeDuty_readv (s : State) (c : Fin 16) (off : BitVec 12) : (s.storeDuty c off).readv = s.readv := rfl
@[simp] theorem State.storeDuty_val (s : State) (c : Fin 16) (off : BitVec 12) : (s.storeDuty c off).val = s.val := rfl
@[simp] theorem State.storeDuty_valv (s : State) (c : Fin 16) (off : BitVec 12) : (s.storeDuty c off).valv = s.valv := rfl
@[simp] theorem State.storeDuty_seq (s : State) (c : Fin 16) (off : BitVec 12) : (s.storeDuty c off).seq = s.seq := rfl
@[simp] theorem State.storeDuty_seqv (s : State) (c : Fin 16) (off : BitVec 12) : (s.storeDuty c off).seqv = s.seqv := rfl
@[simp] theorem State.storeDuty_pulse (s : State) (c : Fin 16) (off : BitVec 12) : (s.storeDuty c off).pulse = s.pulse := rfl
@[simp] theorem State.storeDuty_pulsev (s : State) (c : Fin 16) (off : BitVec 12) : (s.storeDuty c off).pulsev = s.pulsev := rfl
@[simp] theorem State.storeDuty_duty (s : State) (c : Fin 16) (off : BitVec 12) : (s.storeDuty c off).duty = (s.duty.set c off) := rfl
@[simp] theorem State.storeDuty_dutyv (s : State) (c : Fin 16) (off : BitVec 12) : (s.storeDuty c off).dutyv = (s.dutyv.set c true) := rfl
@[simp] theorem State.storeDuty_rawMin (s : State) (c : Fin 16) (off : BitVec 12) : (s.storeDuty c off).rawMin = s.rawMin := rfl
@[simp] theorem State.storeDuty_rawMax (s : State) (c : Fin 16) (off : BitVec 12) : (s.storeDuty c off).rawMax = s.rawMax := rfl
@[simp] theorem State.storeDuty_settle (s : State) (c : Fin 16) (off : BitVec 12) : (s.storeDuty c off).settle = s.settle := rfl
@[simp] theorem State.storeDuty_sel (s : State) (c : Fin 16) (off : BitVec 12) : (s.storeDuty c off).sel = s.sel := rfl
@[simp] theorem State.storeDuty_freq (s : State) (c : Fin 16) (off : BitVec 12) : (s.storeDuty c off).freq = s.freq := rfl
@[simp] theorem State.storeDuty_phase (s : State) (c : Fin 16) (off : BitVec 12) : (s.storeDuty c off).phase = s.phase := rfl
@[simp] theorem State.storeDuty_tick (s : State) (c : Fin 16) (off : BitVec 12) : (s.storeDuty c off).tick = s.tick := rfl
@[simp] theorem State.storeDuty_rxlen (s : State) (c : Fin 16) (off : BitVec 12) : (s.storeDuty c off).rxlen = s.rxlen := rfl
@[simp] theorem State.storeDuty_txlen (s : State) (c : Fin 16) (off : BitVec 12) : (s.storeDuty c off).txlen = s.txlen := rfl
@[simp] theorem State.storeDuty_rx (s : State) (c : Fin 16) (off : BitVec 12) : (s.storeDuty c off).rx = s.rx := rfl
@[simp] theorem State.storeDuty_tx (s : State) (c : Fin 16) (off : BitVec 12) : (s.storeDuty c off).tx = s.tx := rfl
@[simp] theorem State.storeDuty_busy (s : State) (c : Fin 16) (off : BitVec 12) : (s.storeDuty c off).busy = s.busy := rfl
@[simp] theorem State.storeDuty_env (s : State) (c : Fin 16) (off : BitVec 12) : (s.storeDuty c off).env = s.env := rfl

/-! ### storeFrame -/

@[simp] theorem State.storeFrame_cfg (s : State) (h : Bool) (q : Byte) (v : Vector Byte 5) : (s.storeFrame h q v).cfg = s.cfg := rfl
@[simp] theorem State.storeFrame_reading (s : State) (h : Bool) (q : Byte) (v : Vector Byte 5) : (s.storeFrame h q v).reading = s.reading := rfl
@[simp] theorem State.storeFrame_readv (s : State) (h : Bool) (q : Byte) (v : Vector Byte 5) : (s.storeFrame h q v).readv = s.readv := rfl
@[simp] theorem State.storeFrame_val (s : State) (h : Bool) (q : Byte) (v : Vector Byte 5) : (s.storeFrame h q v).val = v := rfl
@[simp] theorem State.storeFrame_valv (s : State) (h : Bool) (q : Byte) (v : Vector Byte 5) : (s.storeFrame h q v).valv = true := rfl
@[simp] theorem State.storeFrame_seq (s : State) (h : Bool) (q : Byte) (v : Vector Byte 5) : (s.storeFrame h q v).seq = (if h then q else s.seq) := rfl
@[simp] theorem State.storeFrame_seqv (s : State) (h : Bool) (q : Byte) (v : Vector Byte 5) : (s.storeFrame h q v).seqv = h := rfl
@[simp] theorem State.storeFrame_pulse (s : State) (h : Bool) (q : Byte) (v : Vector Byte 5) : (s.storeFrame h q v).pulse = s.pulse := rfl
@[simp] theorem State.storeFrame_pulsev (s : State) (h : Bool) (q : Byte) (v : Vector Byte 5) : (s.storeFrame h q v).pulsev = s.pulsev := rfl
@[simp] theorem State.storeFrame_duty (s : State) (h : Bool) (q : Byte) (v : Vector Byte 5) : (s.storeFrame h q v).duty = s.duty := rfl
@[simp] theorem State.storeFrame_dutyv (s : State) (h : Bool) (q : Byte) (v : Vector Byte 5) : (s.storeFrame h q v).dutyv = s.dutyv := rfl
@[simp] theorem State.storeFrame_rawMin (s : State) (h : Bool) (q : Byte) (v : Vector Byte 5) : (s.storeFrame h q v).rawMin = s.rawMin := rfl
@[simp] theorem State.storeFrame_rawMax (s : State) (h : Bool) (q : Byte) (v : Vector Byte 5) : (s.storeFrame h q v).rawMax = s.rawMax := rfl
@[simp] theorem State.storeFrame_settle (s : State) (h : Bool) (q : Byte) (v : Vector Byte 5) : (s.storeFrame h q v).settle = s.settle := rfl
@[simp] theorem State.storeFrame_sel (s : State) (h : Bool) (q : Byte) (v : Vector Byte 5) : (s.storeFrame h q v).sel = s.sel := rfl
@[simp] theorem State.storeFrame_freq (s : State) (h : Bool) (q : Byte) (v : Vector Byte 5) : (s.storeFrame h q v).freq = s.freq := rfl
@[simp] theorem State.storeFrame_phase (s : State) (h : Bool) (q : Byte) (v : Vector Byte 5) : (s.storeFrame h q v).phase = s.phase := rfl
@[simp] theorem State.storeFrame_tick (s : State) (h : Bool) (q : Byte) (v : Vector Byte 5) : (s.storeFrame h q v).tick = s.tick := rfl
@[simp] theorem State.storeFrame_rxlen (s : State) (h : Bool) (q : Byte) (v : Vector Byte 5) : (s.storeFrame h q v).rxlen = s.rxlen := rfl
@[simp] theorem State.storeFrame_txlen (s : State) (h : Bool) (q : Byte) (v : Vector Byte 5) : (s.storeFrame h q v).txlen = s.txlen := rfl
@[simp] theorem State.storeFrame_rx (s : State) (h : Bool) (q : Byte) (v : Vector Byte 5) : (s.storeFrame h q v).rx = s.rx := rfl
@[simp] theorem State.storeFrame_tx (s : State) (h : Bool) (q : Byte) (v : Vector Byte 5) : (s.storeFrame h q v).tx = s.tx := rfl
@[simp] theorem State.storeFrame_busy (s : State) (h : Bool) (q : Byte) (v : Vector Byte 5) : (s.storeFrame h q v).busy = s.busy := rfl
@[simp] theorem State.storeFrame_env (s : State) (h : Bool) (q : Byte) (v : Vector Byte 5) : (s.storeFrame h q v).env = s.env := rfl

/-! ### takeInput -/

@[simp] theorem State.takeInput_cfg (s : State) (rest : List Input) : (s.takeInput rest).cfg = s.cfg := rfl
@[simp] theorem State.takeInput_reading (s : State) (rest : List Input) : (s.takeInput rest).reading = s.reading := rfl
@[simp] theorem State.takeInput_readv (s : State) (rest : List Input) : (s.takeInput rest).readv = s.readv := rfl
@[simp] theorem State.takeInput_val (s : State) (rest : List Input) : (s.takeInput rest).val = s.val := rfl
@[simp] theorem State.takeInput_valv (s : State) (rest : List Input) : (s.takeInput rest).valv = s.valv := rfl
@[simp] theorem State.takeInput_seq (s : State) (rest : List Input) : (s.takeInput rest).seq = s.seq := rfl
@[simp] theorem State.takeInput_seqv (s : State) (rest : List Input) : (s.takeInput rest).seqv = s.seqv := rfl
@[simp] theorem State.takeInput_pulse (s : State) (rest : List Input) : (s.takeInput rest).pulse = s.pulse := rfl
@[simp] theorem State.takeInput_pulsev (s : State) (rest : List Input) : (s.takeInput rest).pulsev = s.pulsev := rfl
@[simp] theorem State.takeInput_duty (s : State) (rest : List Input) : (s.takeInput rest).duty = s.duty := rfl
@[simp] theorem State.takeInput_dutyv (s : State) (rest : List Input) : (s.takeInput rest).dutyv = s.dutyv := rfl
@[simp] theorem State.takeInput_rawMin (s : State) (rest : List Input) : (s.takeInput rest).rawMin = s.rawMin := rfl
@[simp] theorem State.takeInput_rawMax (s : State) (rest : List Input) : (s.takeInput rest).rawMax = s.rawMax := rfl
@[simp] theorem State.takeInput_settle (s : State) (rest : List Input) : (s.takeInput rest).settle = s.settle := rfl
@[simp] theorem State.takeInput_sel (s : State) (rest : List Input) : (s.takeInput rest).sel = s.sel := rfl
@[simp] theorem State.takeInput_freq (s : State) (rest : List Input) : (s.takeInput rest).freq = s.freq := rfl
@[simp] theorem State.takeInput_phase (s : State) (rest : List Input) : (s.takeInput rest).phase = s.phase := rfl
@[simp] theorem State.takeInput_tick (s : State) (rest : List Input) : (s.takeInput rest).tick = s.tick := rfl
@[simp] theorem State.takeInput_rxlen (s : State) (rest : List Input) : (s.takeInput rest).rxlen = s.rxlen := rfl
@[simp] theorem State.takeInput_txlen (s : State) (rest : List Input) : (s.takeInput rest).txlen = s.txlen := rfl
@[simp] theorem State.takeInput_rx (s : State) (rest : List Input) : (s.takeInput rest).rx = s.rx := rfl
@[simp] theorem State.takeInput_tx (s : State) (rest : List Input) : (s.takeInput rest).tx = s.tx := rfl
@[simp] theorem State.takeInput_busy (s : State) (rest : List Input) : (s.takeInput rest).busy = s.busy := rfl
@[simp] theorem State.takeInput_env (s : State) (rest : List Input) : (s.takeInput rest).env = { s.env with input := rest } := rfl

/-! ### accept -/

@[simp] theorem State.accept_cfg (s : State) (rest : List Input) : (s.accept rest).cfg = s.cfg := rfl
@[simp] theorem State.accept_reading (s : State) (rest : List Input) : (s.accept rest).reading = s.reading := rfl
@[simp] theorem State.accept_readv (s : State) (rest : List Input) : (s.accept rest).readv = s.readv := rfl
@[simp] theorem State.accept_val (s : State) (rest : List Input) : (s.accept rest).val = s.val := rfl
@[simp] theorem State.accept_valv (s : State) (rest : List Input) : (s.accept rest).valv = s.valv := rfl
@[simp] theorem State.accept_seq (s : State) (rest : List Input) : (s.accept rest).seq = s.seq := rfl
@[simp] theorem State.accept_seqv (s : State) (rest : List Input) : (s.accept rest).seqv = s.seqv := rfl
@[simp] theorem State.accept_pulse (s : State) (rest : List Input) : (s.accept rest).pulse = s.pulse := rfl
@[simp] theorem State.accept_pulsev (s : State) (rest : List Input) : (s.accept rest).pulsev = s.pulsev := rfl
@[simp] theorem State.accept_duty (s : State) (rest : List Input) : (s.accept rest).duty = s.duty := rfl
@[simp] theorem State.accept_dutyv (s : State) (rest : List Input) : (s.accept rest).dutyv = s.dutyv := rfl
@[simp] theorem State.accept_rawMin (s : State) (rest : List Input) : (s.accept rest).rawMin = s.rawMin := rfl
@[simp] theorem State.accept_rawMax (s : State) (rest : List Input) : (s.accept rest).rawMax = s.rawMax := rfl
@[simp] theorem State.accept_settle (s : State) (rest : List Input) : (s.accept rest).settle = s.settle := rfl
@[simp] theorem State.accept_sel (s : State) (rest : List Input) : (s.accept rest).sel = s.sel := rfl
@[simp] theorem State.accept_freq (s : State) (rest : List Input) : (s.accept rest).freq = s.freq := rfl
@[simp] theorem State.accept_phase (s : State) (rest : List Input) : (s.accept rest).phase = s.phase := rfl
@[simp] theorem State.accept_tick (s : State) (rest : List Input) : (s.accept rest).tick = s.tick := rfl
@[simp] theorem State.accept_rxlen (s : State) (rest : List Input) : (s.accept rest).rxlen = s.rxlen := rfl
@[simp] theorem State.accept_txlen (s : State) (rest : List Input) : (s.accept rest).txlen = s.txlen := rfl
@[simp] theorem State.accept_rx (s : State) (rest : List Input) : (s.accept rest).rx = s.rx := rfl
@[simp] theorem State.accept_tx (s : State) (rest : List Input) : (s.accept rest).tx = s.tx := rfl
@[simp] theorem State.accept_busy (s : State) (rest : List Input) : (s.accept rest).busy = true := rfl
@[simp] theorem State.accept_env (s : State) (rest : List Input) : (s.accept rest).env = { s.env with input := rest } := rfl

end Sys2Proof.Machine
end

