-- ==== Sys2Proof/Laws/Ops.lean ====
section
/-! SUPPORT. Everything the shared operations do to events, ticks and the outside world, said once
(`Grows`), and how a command's operations add up to what it leaves (`Leaves`). -/

namespace Sys2Proof.Machine

/-! ### The machine without tick flag, BUSY and outside world -/

@[simp] theorem State.still_emit (s : State) (ev : Event) : (s.emit ev).still = s.still := rfl
@[simp] theorem State.still_respond (s : State) (st : Status) (d : Word16) :
    (s.respond st d).still = s.still := rfl
@[simp] theorem State.still_waitCycles (s : State) (n : Nat) : (s.waitCycles n).still = s.still := rfl
@[simp] theorem State.still_sample (s : State) : s.sample.2.still = s.still := rfl
@[simp] theorem State.still_dropBusReply (s : State) : s.dropBusReply.still = s.still := rfl
@[simp] theorem State.still_busRead (s : State) (reg : Byte) : (s.busRead reg).2.still = s.still := rfl
@[simp] theorem State.still_busWrite (s : State) (reg : Byte) (bs : List Byte) :
    (s.busWrite reg bs).2.still = s.still := rfl
@[simp] theorem State.still_select (s : State) (v : BitVec 3) :
    (s.select v).still = { s.still with sel := v } := rfl
@[simp] theorem State.still_accept (s : State) (rest : List Input) : (s.accept rest).still = s.still := rfl
@[simp] theorem State.still_takeInput (s : State) (rest : List Input) :
    (s.takeInput rest).still = s.still := rfl
@[simp] theorem State.still_storeReading (s : State) (i : Fin 5) (v : Byte) :
    (s.storeReading i v).still = s.still.storeReading i v := rfl
@[simp] theorem State.still_storePulse (s : State) (f : Fin 5) (p : Word16) :
    (s.storePulse f p).still = s.still.storePulse f p := rfl
@[simp] theorem State.still_storeDuty (s : State) (c : Fin 16) (off : BitVec 12) :
    (s.storeDuty c off).still = s.still.storeDuty c off := rfl
@[simp] theorem State.still_storeFrame (s : State) (h : Bool) (q : Byte) (v : Vector Byte 5) :
    (s.storeFrame h q v).still = s.still.storeFrame h q v := rfl

/-! ### Growing: events added, answers used, ticks taken -/

/-- From `s` to `t` the events `evs` happened, their answers and tick slots are used up, the coming
inputs are as before, and TICK is raised exactly if a tick arrived. -/
structure Grows (s t : State) (evs : List Event) : Prop where
  tickFlag : t.tick = (s.tick || s.tickWithin evs.length)
  trace : ∃ new, t.env.trace = s.env.trace ++ new ∧ new.filter (fun e => !e.isTick) = evs
  input : t.env.input = s.env.input
  ticks : t.env.ticks = s.env.ticks.drop evs.length
  conversions : t.env.conversions = s.env.conversions.drop (evs.countP Event.isSample)
  busReplies : t.env.busReplies = s.env.busReplies.drop (evs.countP Event.isBus)

/-- The events of commands grow by exactly `evs`. -/
theorem Grows.events {s t : State} {evs : List Event} (h : Grows s t evs) : t.events = s.events ++ evs := by
  obtain ⟨new, h1, h2⟩ := h.trace
  rw [State.events, h1, List.filter_append, h2, State.events]

/-- A change of registers alone adds no event. -/
theorem Grows.of_env {s t : State} (he : t.env = s.env) (ht : t.tick = s.tick) : Grows s t [] := by
  constructor <;> simp [he, ht, State.tickWithin]

/-- A write of registers before or after changes nothing of the growth. -/
theorem Grows.congr {s s' t t' : State} {evs : List Event} (h : Grows s t evs) (hs : s'.env = s.env)
    (hs' : s'.tick = s.tick) (ht : t'.env = t.env) (ht' : t'.tick = t.tick) : Grows s' t' evs := by
  constructor
  · simpa [hs, hs', ht', State.tickWithin] using h.tickFlag
  · simpa [hs, ht] using h.trace
  · simpa [hs, ht] using h.input
  · simpa [hs, ht] using h.ticks
  · simpa [hs, ht] using h.conversions
  · simpa [hs, ht] using h.busReplies

/-- Growth adds up. -/
theorem Grows.trans {s t u : State} {e e' : List Event} (h : Grows s t e) (h' : Grows t u e') :
    Grows s u (e ++ e') where
  tickFlag := by
    rw [h'.tickFlag, h.tickFlag]
    simp only [State.tickWithin, h.ticks, List.length_append, List.take_add, List.any_append,
      Bool.or_assoc]
  trace := by
    obtain ⟨n1, h1, h2⟩ := h.trace
    obtain ⟨n2, h1', h2'⟩ := h'.trace
    exact ⟨n1 ++ n2, by rw [h1', h1, List.append_assoc], by rw [List.filter_append, h2, h2']⟩
  input := h'.input.trans h.input
  ticks := by rw [h'.ticks, h.ticks, List.drop_drop, List.length_append]
  conversions := by rw [h'.conversions, h.conversions, List.drop_drop, List.countP_append]
  busReplies := by rw [h'.busReplies, h.busReplies, List.drop_drop, List.countP_append]

/-- The trace grows by an event and by the ticks that arrive before it, which are no events of the
command. -/
theorem Env.trace_record (e : Env) {ev : Event} (h : ev.isTick = false) :
    ∃ new, (e.record ev).trace = e.trace ++ new ∧ new.filter (fun x => !x.isTick) = [ev] :=
  ⟨List.replicate e.ticksNow .tick ++ [ev], by simp [Env.record],
    by simp [h, show Event.tick.isTick = true from rfl]⟩

/-- An event that uses no oracle answer. -/
theorem Grows.emit (s : State) {ev : Event} (h1 : ev.isTick = false) (h2 : ev.isSample = false)
    (h3 : ev.isBus = false) : Grows s (s.emit ev) [ev] where
  tickFlag := by
    rw [State.emit_tick]
    congr 1
    unfold State.tickWithin Env.ticksNow
    cases s.env.ticks <;> simp
  trace := Env.trace_record s.env h1
  input := rfl
  ticks := by simp [Env.record]
  conversions := by simp [Env.record, h2]
  busReplies := by simp [Env.record, h3]

theorem Grows.select (s : State) (v : BitVec 3) : Grows s (s.select v) [.sel v] := by
  have h := Grows.emit { s with sel := v, env := { s.env with settledFor :=
    if s.sel = v then s.env.settledFor else 0 } } (ev := .sel v) rfl rfl rfl
  exact ⟨h.tickFlag, h.trace, h.input, h.ticks, h.conversions, h.busReplies⟩

theorem Grows.waitCycles (s : State) (n : Nat) : Grows s (s.waitCycles n) [.wait n] := by
  have h := Grows.emit { s with env := { s.env with settledFor := s.env.settledFor + n } }
    (ev := .wait n) rfl rfl rfl
  exact ⟨h.tickFlag, h.trace, h.input, h.ticks, h.conversions, h.busReplies⟩

theorem Grows.sample (s : State) : Grows s s.sample.2 [.sample s.sample.1] where
  tickFlag := by
    rw [State.sample_tick]; congr 1
    unfold State.tickWithin Env.ticksNow
    cases s.env.ticks <;> simp
  trace := Env.trace_record _ rfl
  input := rfl
  ticks := by simp [State.sample, Env.record, State.emit]
  conversions := by simp [State.sample, Env.record, State.emit, Event.isSample]
  busReplies := by simp [State.sample, Env.record, State.emit, Event.isBus]

theorem Grows.busRead (s : State) (reg : Byte) :
    Grows s (s.busRead reg).2 [.busRead s.cfg.devAddr reg (s.busRead reg).1] where
  tickFlag := by
    rw [State.busRead_tick]; congr 1
    unfold State.tickWithin Env.ticksNow
    cases s.env.ticks <;> simp
  trace := Env.trace_record _ rfl
  input := rfl
  ticks := by simp [State.busRead, Env.record, State.emit, State.dropBusReply]
  conversions := by simp [State.busRead, Env.record, State.emit, State.dropBusReply, Event.isSample]
  busReplies := by simp [State.busRead, Env.record, State.emit, State.dropBusReply, Event.isBus]

theorem Grows.busWrite (s : State) (reg : Byte) (bs : List Byte) :
    Grows s (s.busWrite reg bs).2 [.busWrite s.cfg.devAddr reg bs (s.busWrite reg bs).1] where
  tickFlag := by
    rw [State.busWrite_tick]; congr 1
    unfold State.tickWithin Env.ticksNow
    cases s.env.ticks <;> simp
  trace := Env.trace_record _ rfl
  input := rfl
  ticks := by simp [State.busWrite, Env.record, State.emit, State.dropBusReply]
  conversions := by simp [State.busWrite, Env.record, State.emit, State.dropBusReply, Event.isSample]
  busReplies := by simp [State.busWrite, Env.record, State.emit, State.dropBusReply, Event.isBus]

/-! ### The answers -/

/-- A bus read answers the byte of the coming answer, or FAIL. -/
theorem State.busRead_fst (s : State) (reg : Byte) :
    (s.busRead reg).1 = if s.env.busReply.ok then some s.env.busReply.rdata else none := rfl

/-- A bus write answers OK or FAIL as the coming answer says. -/
theorem State.busWrite_fst (s : State) (reg : Byte) (bs : List Byte) :
    (s.busWrite reg bs).1 = s.env.busReply.ok := rfl

/-- The coming answer of the bus target, where the list holds one. -/
theorem Env.busReply_cons {e : Env} {r : BusReply} {rs : List BusReply} (h : e.busReplies = r :: rs) :
    e.busReply = r := by
  simp [Env.busReply, h]

/-! ### The end of a command -/

/-- A command whose operations grew the events by `evs` and left the registers of `r` leaves, with
its response, `r`. -/
theorem Leaves.of_grows {s u r : State} {evs : List Event} (h : Grows s u evs)
    (hr : u.still = r.still) (ht : r.tick = s.tick) (st : Status) (d : Word16) :
    Leaves s r (u.respond st d) (evs ++ [.rsp st d]) := by
  have h2 := Grows.emit u (ev := .rsp st d) rfl rfl rfl
  have h3 := h.trans h2
  exact ⟨hr, by rw [ht]; exact h3.tickFlag, rfl, h3.events, h3.input, h3.ticks, h3.conversions,
    h3.busReplies⟩

/-- A command that answers a response after operations that grew the events by `evs` and left the
registers of `r` completes. -/
theorem Completes.of_grows {i : Instr} {s u r : State} {evs : List Event} {st : Status} {d : Word16}
    (he : exec i s = .next (u.respond st d)) (h : Grows s u evs) (hr : u.still = r.still)
    (ht : r.tick = s.tick) : Completes i s r (evs ++ [.rsp st d]) :=
  ⟨_, he, Leaves.of_grows h hr ht st d⟩

/-- A command that writes registers alone and then answers completes. -/
theorem Completes.of_registers {i : Instr} {s u r : State} {st : Status} {d : Word16}
    (he : exec i s = .next (u.respond st d)) (hr : u.still = r.still) (hu : u.env = s.env)
    (hut : u.tick = s.tick) (ht : r.tick = s.tick) : Completes i s r [.rsp st d] :=
  Completes.of_grows he (Grows.of_env hu hut) hr ht

/-- A command that ends at once with a response. -/
theorem Leaves.respond (s : State) (st : Status) (d : Word16) : Leaves s s (s.respond st d) [.rsp st d] :=
  Leaves.of_grows (Grows.of_env rfl rfl) rfl rfl st d

end Sys2Proof.Machine
end

