-- ==== Sys2Proof/Laws/PerInstr.lean ====
section
/-! SUPPORT. A law for every command as syntax: the word of a well-formed command is selected by the
command's own row of the opcode map (30_encoding.md R82, R87). -/

namespace Sys2Proof

/-- The row of the opcode map a command stands on. -/
def Instr.opcode : Instr → Opcode
  | .nop => .nop
  | .rdreg _ => .rdreg
  | .wrreg _ _ => .wrreg
  | .rxwr _ _ => .rxwr
  | .txrd _ => .txrd
  | .tack => .tack
  | .acq => .acq
  | .enc _ _ => .enc
  | .dec => .dec
  | .mapv _ => .mapv
  | .mapi _ _ => .mapi
  | .pwminit _ => .pwminit
  | .pwmset _ _ => .pwmset
  | .pwmsetr _ => .pwmsetr
  | .apply => .apply

end Sys2Proof

namespace Sys2Proof.Laws.OwnRow

/-- The word of a well-formed command is selected by its own row. -/
def Statement (i : Instr) : Prop := i.wf = true → i.opcode.selects (encode i) = true

theorem nop : Statement .nop := fun _ => by decide

theorem rdreg (a : Nat) : Statement (.rdreg a) := fun h => by
  simp only [Instr.wf, okA, decide_eq_true_eq] at h
  exact Opcode.rdreg.selects_commandWord 0xFF 0x00 0xFFFF 0x01 0 0 (by omega) h (by omega)
    (by decide) (by decide) (by decide) (by simp) (by decide)

theorem wrreg (a imm : Nat) : Statement (.wrreg a imm) := fun h => by
  simp only [Instr.wf, okA, okImm, Bool.and_eq_true, decide_eq_true_eq] at h
  exact Opcode.wrreg.selects_commandWord 0xFF 0x00 0x0000 0x02 0 0 (by omega) h.1 h.2
    (by decide) (by decide) (by decide) (by simp) (by simp)

theorem rxwr (a byte : Nat) : Statement (.rxwr a byte) := fun h => by
  simp only [Instr.wf, okA, okByte, Bool.and_eq_true, decide_eq_true_eq] at h
  exact Opcode.rxwr.selects_commandWord 0xFF 0x00 0xFF00 0x03 0 0 (by omega) h.1 (by omega)
    (by decide) (by decide) (by decide) (by simp) (byte_and_high h.2)

theorem txrd (a : Nat) : Statement (.txrd a) := fun h => by
  simp only [Instr.wf, okA, decide_eq_true_eq] at h
  exact Opcode.txrd.selects_commandWord 0xFF 0x00 0xFFFF 0x04 0 0 (by omega) h (by omega)
    (by decide) (by decide) (by decide) (by simp) (by decide)

theorem tack : Statement .tack := fun _ => by decide

theorem acq : Statement .acq := fun _ => by decide

theorem enc (withSeq : Bool) (seq : Nat) : Statement (.enc withSeq seq) := fun h => by
  simp only [Instr.wf, okByte, decide_eq_true_eq] at h
  exact Opcode.enc.selects_commandWord 0xFF 0xFE 0xFF00 0x20 0 0 (by omega)
    (by have := withSeq.toNat_lt; omega) (by omega)
    (by decide) (by decide) (by decide) (flag_and_high withSeq) (byte_and_high h)

theorem dec : Statement .dec := fun _ => by decide

theorem mapv (f : Nat) : Statement (.mapv f) := fun h => by
  simp only [Instr.wf, okA, decide_eq_true_eq] at h
  exact Opcode.mapv.selects_commandWord 0xFF 0x00 0xFFFF 0x30 0 0 (by omega) h (by omega)
    (by decide) (by decide) (by decide) (by simp) (by decide)

theorem mapi (f : Nat) (v : Int) : Statement (.mapi f v) := fun h => by
  simp only [Instr.wf, okA, okSigned, Bool.and_eq_true, decide_eq_true_eq] at h
  exact Opcode.mapi.selects_commandWord 0xFF 0x00 0x0000 0x31 0 0 (by omega) h.1 (by omega)
    (by decide) (by decide) (by decide) (by simp) (by simp)

theorem pwminit (hz : Nat) : Statement (.pwminit hz) := fun h => by
  simp only [Instr.wf, okImm, decide_eq_true_eq] at h
  exact Opcode.pwminit.selects_commandWord 0xFF 0xFF 0x0000 0x40 0 0 (by omega) (by omega) h
    (by decide) (by decide) (by decide) (by decide) (by simp)

theorem pwmset (c us : Nat) : Statement (.pwmset c us) := fun h => by
  simp only [Instr.wf, okA, okImm, Bool.and_eq_true, decide_eq_true_eq] at h
  exact Opcode.pwmset.selects_commandWord 0xFF 0x00 0x0000 0x41 0 0 (by omega) h.1 h.2
    (by decide) (by decide) (by decide) (by simp) (by simp)

theorem pwmsetr (f : Nat) : Statement (.pwmsetr f) := fun h => by
  simp only [Instr.wf, okA, decide_eq_true_eq] at h
  exact Opcode.pwmsetr.selects_commandWord 0xFF 0x00 0xFFFF 0x42 0 0 (by omega) h (by omega)
    (by decide) (by decide) (by decide) (by simp) (by decide)

theorem apply : Statement .apply := fun _ => by decide

end Sys2Proof.Laws.OwnRow
end

