-- ==== Sys2Proof/Laws/Pwm.lean ====
section
/-! SUPPORT. What the bus operations use of the coming answers, and everything `set_pulse` does
(44_pwm.md R215), outcome by outcome. -/

namespace Sys2Proof.Machine

/-! ### The coming answers -/

/-- The next answer is the answer number 0. -/
theorem State.busReply_eq_replyAt (s : State) : s.env.busReply = s.replyAt 0 := by
  unfold Env.busReply State.replyAt
  cases s.env.busReplies <;> simp

/-- Two states with the same answers to come. -/
theorem State.replyAt_congr {s t : State} (h : t.env.busReplies = s.env.busReplies)
    (hd : t.env.drawn = s.env.drawn) (k : Nat) : t.replyAt k = s.replyAt k := by
  unfold State.replyAt
  rw [h, hd]

/-- A transaction uses up one answer: what was answer k + 1 is now answer k. -/
theorem State.replyAt_dropBusReply (s : State) (k : Nat) : s.dropBusReply.replyAt k = s.replyAt (k + 1) := by
  unfold State.replyAt
  rw [show s.dropBusReply.env.busReplies = s.env.busReplies.drop 1 by simp [State.dropBusReply],
    List.getElem?_drop, Nat.add_comm 1 k,
    show s.dropBusReply.env.drawn + k = s.env.drawn + (k + 1) by simp [State.dropBusReply]; omega]

@[simp] theorem State.replyAt_emit (s : State) (ev : Event) (k : Nat) :
    (s.emit ev).replyAt k = s.replyAt k := rfl
@[simp] theorem State.replyAt_waitCycles (s : State) (n k : Nat) :
    (s.waitCycles n).replyAt k = s.replyAt k := rfl
@[simp] theorem State.replyAt_storePulse (s : State) (f : Fin 5) (p : Word16) (k : Nat) :
    (s.storePulse f p).replyAt k = s.replyAt k := rfl
@[simp] theorem State.replyAt_storeDuty (s : State) (c : Fin 16) (off : BitVec 12) (k : Nat) :
    (s.storeDuty c off).replyAt k = s.replyAt k := rfl
@[simp] theorem State.replyAt_storeFrame (s : State) (h : Bool) (q : Byte) (v : Vector Byte 5) (k : Nat) :
    (s.storeFrame h q v).replyAt k = s.replyAt k := rfl
@[simp] theorem State.replyAt_busRead (s : State) (reg : Byte) (k : Nat) :
    (s.busRead reg).2.replyAt k = s.replyAt (k + 1) := State.replyAt_dropBusReply s k
@[simp] theorem State.replyAt_busWrite (s : State) (reg : Byte) (bs : List Byte) (k : Nat) :
    (s.busWrite reg bs).2.replyAt k = s.replyAt (k + 1) := State.replyAt_dropBusReply s k

/-- A bus write with its answer known. -/
theorem State.busWrite_of_reply {s : State} {ok : Bool} (reg : Byte) (bs : List Byte)
    (h : (s.replyAt 0).ok = ok) : s.busWrite reg bs = (ok, (s.busWrite reg bs).2) := by
  rw [← h, ← State.busReply_eq_replyAt]
  rfl

/-- A bus read that answers a byte. -/
theorem State.busRead_of_ok {s : State} (reg : Byte) (h : (s.replyAt 0).ok = true) :
    s.busRead reg = (some (s.replyAt 0).rdata, (s.busRead reg).2) := by
  rw [← State.busReply_eq_replyAt] at h ⊢
  exact Prod.ext (by rw [State.busRead_fst, if_pos h]) rfl

/-- A bus read that answers FAIL. -/
theorem State.busRead_of_fail {s : State} (reg : Byte) (h : (s.replyAt 0).ok = false) :
    s.busRead reg = (none, (s.busRead reg).2) := by
  rw [← State.busReply_eq_replyAt] at h
  exact Prod.ext (by rw [State.busRead_fst, if_neg (by simp [h])]) rfl

/-! ### `set_pulse` -/

/-- The count of a pulse in a state, as the 12 bits DUTY holds. -/
abbrev State.offOf (s : State) (us : Nat) : BitVec 12 :=
  BitVec.ofNat 12 (offCount s.cfg s.freq.toNat us)

/-- No such channel: nothing happens. -/
theorem State.setPulse_badChannel (s : State) {c : Nat} (us : Nat) (h : 15 < c) :
    s.setPulse c us = ⟨.badChannel, 0, s⟩ := by
  simp [State.setPulse, channel?_eq_none h]

/-- FREQ = 0: nothing happens. -/
theorem State.setPulse_skipped (s : State) (c : Fin 16) (us : Nat) (h : s.freq = 0) :
    s.setPulse c.val us = ⟨.skipped, 0, s⟩ := by
  simp [State.setPulse, h]

/-- The burst is answered FAIL: it was sent, and no register changes. -/
theorem State.setPulse_busFail (s : State) (c : Fin 16) (us : Nat) (h : s.freq ≠ 0)
    (hr : (s.replyAt 0).ok = false) :
    s.setPulse c.val us =
      ⟨.busFail, s.offOf us, (s.busWrite (channelReg s.cfg c) (burstBytes (s.offOf us))).2⟩ := by
  simp only [State.setPulse, channel?_val, h, if_false]
  rw [State.busWrite_of_reply _ _ hr]

/-- The burst is answered OK: DUTY[c] and its flag are written. -/
theorem State.setPulse_ok (s : State) (c : Fin 16) (us : Nat) (h : s.freq ≠ 0)
    (hr : (s.replyAt 0).ok = true) :
    s.setPulse c.val us =
      ⟨.ok, s.offOf us,
        ((s.busWrite (channelReg s.cfg c) (burstBytes (s.offOf us))).2).storeDuty c (s.offOf us)⟩ := by
  simp only [State.setPulse, channel?_val, h, if_false]
  rw [State.busWrite_of_reply _ _ hr]

end Sys2Proof.Machine
end

