-- ==== Sys2Proof/Tests/Slice0.lean ====
section
/-! SUPPORT. Tests. Every expected value is worked out in the spec: a word of 30_encoding.md R82 or R87
written out field by field, or a vector V<n> of 95_test_vectors.md (configuration TC1). Then, for every
statement that has hypotheses, a witness that they can be met together. -/

namespace Sys2Proof.Tests

open Sys2Proof Sys2Proof.Machine

/-! ### States and one step -/

/-- The reset state of TC1 with the outside world `e`. -/
def tc1 (e : Env) : State := State.resetWith Config.tc1 e

/-- The reset state of TC1, nothing coming. -/
def base : State := tc1 Env.silent

/-- The reset state of TC1 with coming inputs. -/
def fed (ins : List Input) : State := tc1 { Env.silent with input := ins }

/-- `n` answers OK of the bus target, MODE1 read as `b`. -/
def okReplies (n : Nat) (b : Byte) : List BusReply := List.replicate n ⟨true, b⟩

/-- A state with coming answers of the bus target. -/
def withReplies (rs : List BusReply) (s : State) : State := { s with env := { s.env with busReplies := rs } }

/-- PHASE READY at 50 Hz. -/
def ready : State := { base with freq := 50, phase := .ready }

/-- A received frame. -/
def framed (s : State) (b : List Byte) : State :=
  { s with rx := Memory.writeBytes [] 0 b, rxlen := BitVec.ofNat 8 b.length }

/-- Readings, all written. -/
def measured (r : Vector Byte 5) : State :=
  { base with reading := r, readv := #v[true, true, true, true, true] }

/-- "H,0,9,4,0,9" (V20, V40). -/
def frame09409 : List Byte := [0x48, 0x2C, 0x30, 0x2C, 0x39, 0x2C, 0x34, 0x2C, 0x30, 0x2C, 0x39]

/-- "H,3,0,1,2,3,4" (V25, V42). -/
def frame3 : List Byte :=
  [0x48, 0x2C, 0x33, 0x2C, 0x30, 0x2C, 0x31, 0x2C, 0x32, 0x2C, 0x33, 0x2C, 0x34]

/-- "H,1,2,a,3,4" (V24). -/
def frameBad : List Byte := [0x48, 0x2C, 0x31, 0x2C, 0x32, 0x2C, 0x61, 0x2C, 0x33, 0x2C, 0x34]

/-- The state one step leaves when the host offers the word `w`. -/
def after (w : Nat) (s : State) : Option State :=
  match step (s.withFetchWord 32 w) with
  | .next t => some t
  | .fault _ => none
  | .refused _ => none

/-- The response of that step. -/
def answer (w : Nat) (s : State) : Option (Status × Word16) := (after w s).bind State.response

/-- One field of what that step leaves. -/
def left {α : Type} (f : State → α) (w : Nat) (s : State) : Option α := (after w s).map f

/-! ### Well-formedness: each check refuses an ill-formed command -/

theorem test_okA_refuses : okA 256 = false ∧ (Instr.rdreg 256).wf = false ∧ (Instr.rdreg 255).wf = true := by
  decide
theorem test_okImm_refuses :
    okImm 65536 = false ∧ (Instr.wrreg 1 65536).wf = false ∧ (Instr.wrreg 1 65535).wf = true := by decide
theorem test_okByte_refuses :
    okByte 256 = false ∧ (Instr.rxwr 0 256).wf = false ∧ (Instr.enc true 256).wf = false ∧
    (Instr.rxwr 0 255).wf = true := by decide
theorem test_okSigned_refuses :
    okSigned 32768 = false ∧ (Instr.mapi 0 32768).wf = false ∧ (Instr.mapi 0 (-32769)).wf = false ∧
    (Instr.mapi 0 (-32768)).wf = true ∧ (Instr.mapi 0 32767).wf = true := by decide

/-! ### Decoding: op[31:24] a[23:16] imm[15:0] (R80), one word for every command -/

theorem test_decode_nop : decode 0b00000000_00000000_0000000000000000 = .ok .nop := by decide
theorem test_decode_rdreg : decode 0b00000001_00100010_0000000000000000 = .ok (.rdreg 0x22) := by decide
theorem test_decode_wrreg : decode 0b00000010_00000011_0000110100010110 = .ok (.wrreg 0x03 3350) := by decide
theorem test_decode_rxwr : decode 0b00000011_00111111_0000000001000001 = .ok (.rxwr 63 0x41) := by decide
theorem test_decode_txrd : decode 0b00000100_00011111_0000000000000000 = .ok (.txrd 31) := by decide
theorem test_decode_tack : decode 0b00000101_00000000_0000000000000000 = .ok .tack := by decide
theorem test_decode_acq : decode 0b00010000_00000000_0000000000000000 = .ok .acq := by decide
theorem test_decode_enc : decode 0b00100000_00000001_0000000000000011 = .ok (.enc true 3) ∧
    decode 0b00100000_00000000_0000000001001101 = .ok (.enc false 77) := by decide
theorem test_decode_dec : decode 0b00100001_00000000_0000000000000000 = .ok .dec := by decide
theorem test_decode_mapv : decode 0b00110000_00000100_0000000000000000 = .ok (.mapv 4) := by decide
theorem test_decode_mapi : decode 0b00110001_00000000_1111111111111011 = .ok (.mapi 0 (-5)) ∧
    decode 0b00110001_00000000_0111111111111111 = .ok (.mapi 0 32767) := by decide
theorem test_decode_pwminit : decode 0b01000000_00000000_0000000000110010 = .ok (.pwminit 50) := by decide
theorem test_decode_pwmset : decode 0b01000001_00000011_0000010111011100 = .ok (.pwmset 3 1500) := by decide
theorem test_decode_pwmsetr : decode 0b01000010_00000010_0000000000000000 = .ok (.pwmsetr 2) := by decide
theorem test_decode_apply : decode 0b01010000_00000000_0000000000000000 = .ok .apply := by decide

/-- Reserved bits and unknown opcodes (V29, V47, V58, V77, V81, V93; 42_mapping.md R155). -/
theorem test_decode_refuses :
    decode 0x00000001 = .error (.reservedBits .nop) ∧ decode 0x06000000 = .error (.unknownOpcode 0x06) ∧
    decode 0xFFFFFFFF = .error (.unknownOpcode 0xFF) ∧ decode 0x01080001 = .error (.reservedBits .rdreg) ∧
    decode 0x20020000 = .error (.reservedBits .enc) ∧ decode 0x20000100 = .error (.reservedBits .enc) ∧
    decode 0x40010032 = .error (.reservedBits .pwminit) ∧ decode 0x50000001 = .error (.reservedBits .apply) ∧
    decode 0x03000148 = .error (.reservedBits .rxwr) := by decide

/-- The words of R87's examples. -/
theorem test_encode : encode (.wrreg 0x02 1200) = 0x020204B0 ∧ encode (.pwmset 3 1500) = 0x410305DC ∧
    encode (.mapi 0 (-5)) = 0x3100FFFB ∧ encode (.enc true 3) = 0x20010003 := by decide

/-- The opcode table's numbering: one word of 32 bits. -/
theorem test_decodeTableWord : decodeTableWord 32 0x410305DC = some (.pwmset 3 1500) ∧
    decodeTableWord 32 0x00000001 = none := by decide

/-! ### Textual form (R87) -/

theorem test_assemble_mapi : assembleLine "MAPI 0, -5".toList = some [.mapi 0 (-5)] := by decide
theorem test_assemble_name : assembleLine "RDREG PULSE[2]".toList = some [.rdreg 0x22] := by decide
theorem test_assemble_hex : assembleLine "WRREG 0x02, 1200".toList = some [.wrreg 0x02 1200] := by decide
/-- Every operand may be hexadecimal; a[7:1] of ENC must be 0. -/
theorem test_assemble_enc : assembleLine "ENC 0x1, 3".toList = some [.enc true 3] ∧
    assembleLine "ENC 0, 0x4D".toList = some [.enc false 77] ∧ assembleLine "ENC 2, 3".toList = none := by decide
theorem test_assemble_rxload : assembleLine "RXLOAD \"H,0\"".toList =
    some [.rxwr 0 0x48, .rxwr 1 0x2C, .rxwr 2 0x30, .wrreg 0x04 3] := by decide

/-! ### Statuses (R250) -/

theorem test_status_codes :
    [Status.ok, .skipped, .busFail, .badHeader, .badCount, .badToken, .tooLong, .badChannel, .badOperand,
      .noData, .badAddr, .readOnly, .illegalCmd, .badPhase].map Status.code =
    [0x00, 0x01, 0x10, 0x20, 0x21, 0x22, 0x23, 0x30, 0x31, 0x32, 0x33, 0x34, 0x40, 0x41] := by decide

/-! ### Functions -/

/-- V1 to V5 (41_acquisition.md R131) on the window 1200 to 3350: 2275 is a tie, and goes to 4. -/
theorem test_mapSensor : ([1200, 3350, 2275, 1199, 65535].map fun r => mapSensor .tc1 r 1200 3350) =
    [0, 9, 4, 0, 9] := by decide

/-- V10, V11 and R154's table: fingers 0 and 4. -/
theorem test_valueToPulse :
    (([-5, 0, 2, 4, 5, 9, 99] : List Int).map fun v => valueToPulse .tc1 0 v) =
      [2500, 2500, 2500, 1929, 1643, 500, 500] ∧
    (([0, 9] : List Int).map fun v => valueToPulse .tc1 4 v) = [500, 2500] := by decide

/-- V30, V31, V32. -/
theorem test_calcPrescale : ([50, 60, 200, 1000, 1, 23, 24, 1526, 1527, 65535].map (calcPrescale .tc1)) =
    [121, 101, 30, 5, 255, 255, 253, 3, 3, 3] := by decide

/-- V33, V36, V37. -/
theorem test_offCount :
    ([0, 499, 1000, 1500, 1929, 2501, 65535].map (offCount .tc1 50)) =
      [102, 102, 205, 307, 395, 512, 512] ∧
    ([1500, 2500].map (offCount .tc1 400)) = [2458, 4095] ∧
    ([500, 1500].map (offCount .tc1 1000)) = [2048, 4095] := by decide

/-- V28 and V29: delimiters, signs, leading zeros; V29b and V29c: the sequence number modulo 256. -/
theorem test_decodeFrame :
    decodeFrame .tc1 [0x20, 0x2C, 0x48, 0x2C, 0x20, 0x31, 0x2C, 0x2C, 0x32, 0x20, 0x2C, 0x33, 0x2C, 0x34,
      0x2C, 0x35, 0x2C, 0x20] = .accept false 0 #v[1, 2, 3, 4, 5] ∧
    decodeFrame .tc1 [0x48, 0x2C, 0x2D, 0x33, 0x2C, 0x37, 0x2C, 0x2B, 0x31, 0x32, 0x2C, 0x30, 0x30, 0x37,
      0x2C, 0x30] = .accept false 0 #v[0, 7, 9, 7, 0] ∧
    decodeFrame .tc1 [0x48, 0x2C, 0x33, 0x30, 0x30, 0x2C, 0x31, 0x2C, 0x32, 0x2C, 0x33, 0x2C, 0x34, 0x2C,
      0x35] = .accept true 44 #v[1, 2, 3, 4, 5] ∧
    decodeFrame .tc1 [0x48, 0x2C, 0x2D, 0x31, 0x2C, 0x31, 0x2C, 0x32, 0x2C, 0x33, 0x2C, 0x34, 0x2C,
      0x35] = .accept true 255 #v[1, 2, 3, 4, 5] := by decide

/-! ### Commands, one step each -/

/-- V80, V81. -/
theorem test_nop : answer 0x00000000 base = some (.ok, 0) ∧ answer 0x00000001 base = some (.illegalCmd, 0) := by
  decide
/-- V82, V84, V85. -/
theorem test_rdreg : answer 0x01010000 base = some (.ok, 50) ∧ answer 0x013F0000 base = some (.noData, 0) ∧
    answer 0x01150000 base = some (.badAddr, 0) := by decide
/-- V87, V90, V91. -/
theorem test_wrreg_refuses : answer 0x02040100 base = some (.badOperand, 0) ∧
    answer 0x02070032 base = some (.readOnly, 0) ∧ answer 0x020B0000 base = some (.badAddr, 0) := by decide
/-- V89. -/
theorem test_wrreg_reading : left (fun t => (t.reading[0], t.readv[0])) 0x021000C8 base = some (200, true) := by
  decide
/-- V92. -/
theorem test_rxwr : left (fun t => t.rx.read 63) 0x033F0041 base = some 0x41 ∧
    answer 0x03400041 base = some (.badAddr, 0) := by decide
/-- V94. -/
theorem test_txrd : answer 0x041F0000 base = some (.ok, 0) ∧ answer 0x04200000 base = some (.badAddr, 0) := by
  decide
/-- V95. -/
theorem test_tack : answer 0x05000000 { base with tick := true } = some (.ok, 1) ∧
    left State.tick 0x05000000 { base with tick := true } = some false := by decide
/-- V97: a tick in the same cycle. -/
theorem test_tack_same_cycle :
    left (fun t => (t.response, t.tick)) 0x05000000
      { tc1 { Env.silent with ticks := [1] } with tick := true } = some (some (.ok, 1), true) := by decide

/-- The five conversions of P1, each as an input list with the sample on its own channel. -/
def samples : List Conversion :=
  [⟨#v[1200, 0, 0, 0, 0, 0, 0, 0], 7⟩, ⟨#v[0, 3350, 0, 0, 0, 0, 0, 0], 7⟩, ⟨#v[0, 0, 2275, 0, 0, 0, 0, 0], 7⟩,
   ⟨#v[0, 0, 0, 1200, 0, 0, 0, 0], 7⟩, ⟨#v[0, 0, 0, 0, 3350, 0, 0, 0], 7⟩]

/-- P1, command 4. -/
def window : State := { tc1 { Env.silent with conversions := samples } with rawMin := 1200, rawMax := 3350 }

theorem test_acq : left (fun t => (t.reading, t.sel)) 0x10000000 window = some (#v[0, 9, 4, 0, 9], 4) := by
  decide
theorem test_acq_events : left (fun t => t.events.take 6) 0x10000000 window =
    some [.sel 0, .wait 50, .sample 1200, .sel 1, .wait 50, .sample 3350] := by decide

/-- V40. -/
theorem test_enc : left (fun t => (t.tx.firstBytes 12, t.txlen)) 0x20000000 (measured #v[0, 9, 4, 0, 9]) =
    some (frame09409 ++ [0], 11) := by decide
/-- V44, V46. -/
theorem test_enc_longest : answer 0x200100FF (measured #v[255, 255, 255, 255, 255]) = some (.ok, 25) ∧
    answer 0x20000000 base = some (.noData, 0) := by decide
/-- V25. -/
theorem test_dec : left (fun t => (t.val, t.seq, t.response)) 0x21000000 (framed base frame3) =
    some (#v[0, 1, 2, 3, 4], 3, some (.ok, 0x0103)) := by decide
/-- V24, V29r. -/
theorem test_dec_rejects : answer 0x21000000 (framed base frameBad) = some (.badToken, 0) ∧
    answer 0x21000000 { base with rxlen := 65 } = some (.tooLong, 0) := by decide
/-- 42_mapping.md R155's example. -/
theorem test_mapv : answer 0x30020000 { base with val := #v[0, 9, 4, 0, 9], valv := true } = some (.ok, 1929) ∧
    answer 0x30020000 base = some (.noData, 0) ∧ answer 0x30050000 base = some (.badChannel, 0) := by decide
/-- P5, commands 1, 7 and 8. -/
theorem test_mapi : answer 0x3100FFFB base = some (.ok, 2500) ∧ answer 0x31020005 base = some (.ok, 1643) ∧
    answer 0x31050005 base = some (.badChannel, 0) := by decide
/-- V51: MODE1 reads 0x11. -/
theorem test_pwminit : left State.busTrace 0x40000032 (withReplies (okReplies 5 0x11) base) =
    some [.busRead 0x40 0x00 (some 0x11), .busWrite 0x40 0x00 [0x11] true, .busWrite 0x40 0xFE [0x79] true,
      .busWrite 0x40 0x00 [0x01] true, .busWrite 0x40 0x00 [0x21] true] := by decide
/-- V54: the prescaler write fails. -/
theorem test_pwminit_fails :
    left (fun t => (t.response, t.phase, t.freq)) 0x40000032
      (withReplies [⟨true, 0⟩, ⟨true, 0⟩, ⟨false, 0⟩] base) = some (some (.busFail, 3), .dead, 0) := by decide
/-- V60. -/
theorem test_pwmset : left (fun t => (t.busTrace, t.duty[3], t.dutyv[3])) 0x410305DC
      (withReplies (okReplies 1 0) ready) =
    some ([.busWrite 0x40 0x12 [0x00, 0x00, 0x33, 0x01] true], 307, true) := by decide
/-- V63, V64, V65. -/
theorem test_pwmset_refuses : answer 0x411005DC ready = some (.badChannel, 0) ∧
    answer 0x410305DC base = some (.skipped, 0) ∧ answer 0x411005DC base = some (.badChannel, 0) := by decide
/-- V67. -/
theorem test_pwmsetr : answer 0x42020000 (withReplies (okReplies 1 0)
      { ready with pulse := #v[0, 0, 1929, 0, 0], pulsev := #v[false, false, true, false, false] }) =
    some (.ok, 395) ∧ answer 0x42020000 ready = some (.noData, 0) := by decide
/-- V70. -/
theorem test_apply : left State.busTrace 0x50000000
      (withReplies (okReplies 5 0) (framed ready frame09409)) =
    some [.busWrite 0x40 0x06 [0, 0, 0x00, 0x02] true, .busWrite 0x40 0x0A [0, 0, 0x66, 0x00] true,
      .busWrite 0x40 0x0E [0, 0, 0x8B, 0x01] true, .busWrite 0x40 0x12 [0, 0, 0x00, 0x02] true,
      .busWrite 0x40 0x16 [0, 0, 0x00, 0x02] true] := by decide
/-- V74: the third burst fails. -/
theorem test_apply_bus_failure : left (fun t => (t.response, t.duty[1], t.dutyv[2])) 0x50000000
      (withReplies [⟨true, 0⟩, ⟨true, 0⟩, ⟨false, 0⟩, ⟨true, 0⟩, ⟨true, 0⟩] (framed ready frame09409)) =
    some (some (.busFail, 0x0004), 102, false) := by decide

/-! ### Witnesses: for every statement with hypotheses, states and operands that meet them together

Each names its statement; a statement of several clauses has a line for each, at the ends of its ranges. -/

/-- A machine in which everything is valid: readings, a frame, pulses, PHASE READY, channel 15 written. -/
def full : State :=
  { framed ready frame09409 with
    reading := #v[0, 9, 4, 0, 9], readv := #v[true, true, true, true, true]
    val := #v[0, 9, 4, 0, 9], valv := true, seq := 3, seqv := true
    pulse := #v[2500, 500, 1929, 500, 2500], pulsev := #v[true, true, true, true, true]
    dutyv := #v[false, false, false, false, false, false, false, false, false, false, false, false, false,
      false, false, true]
    tick := true, txlen := 25, sel := 4 }

/-- `full` with the next input. -/
def fullWith (x : Input) : State := { full with env := { full.env with input := [x] } }

theorem witness_DecodeOfEncode : (Instr.rdreg 255).wf = true ∧ (Instr.wrreg 255 65535).wf = true ∧
    (Instr.rxwr 255 255).wf = true ∧ (Instr.txrd 0).wf = true ∧ (Instr.enc true 255).wf = true ∧
    (Instr.enc false 0).wf = true ∧ (Instr.mapv 255).wf = true ∧ (Instr.mapi 255 (-32768)).wf = true ∧
    (Instr.mapi 0 32767).wf = true ∧ (Instr.pwminit 65535).wf = true ∧ (Instr.pwmset 255 65535).wf = true ∧
    (Instr.pwmsetr 255).wf = true ∧ Instr.apply.wf = true := by decide
theorem witness_EncodeOfDecode : decode 0x3100FFFB = .ok (.mapi 0 (-5)) := by decide
theorem witness_IllegalWordChangesNothing : (fed [.cmd 0x00000001]).busy = false ∧
    (fed [.cmd 0x00000001]).env.input = .cmd 0x00000001 :: [] ∧
    (∀ o : Opcode, 0x00000001#32 &&& o.mask ≠ o.pattern) ∧
    (∀ o : Opcode, 0x06000000#32 &&& o.mask ≠ o.pattern) :=
  ⟨by decide, by decide, fun o => by cases o <;> decide, fun o => by cases o <;> decide⟩
theorem witness_StepRunsDecodedCommand : (fed [.cmd 0x410305DC]).busy = false ∧
    (fed [.cmd 0x410305DC]).env.input = .cmd 0x410305DC :: [] ∧ decode 0x410305DC = .ok (.pwmset 3 1500) := by
  decide
theorem witness_StepWaitsWithoutCommand : base.env.input = [] ∧
    ({ fed [.cmd 0] with busy := true } : State).busy = true ∧
    ({ fed [.cmd 0] with busy := true } : State).env.input = .cmd 0 :: [] := by decide
theorem witness_TickSetsTickOnly : (fed [.tick, .cmd 0]).env.input = .tick :: [.cmd 0] := by decide
theorem witness_ResetFromEveryState : (fullWith .rst).env.input = .rst :: [] ∧
    ({ fullWith .rst with busy := true } : State).env.input = .rst :: [] := by decide
theorem witness_ResetAbandonsCommand : (fullWith (.cmdCut 0x50000000 3)).busy = false ∧
    (fullWith (.cmdCut 0x50000000 3)).env.input = .cmdCut 0x50000000 3 :: [] ∧
    ∃ u, runWord 0x50000000 ((fullWith (.cmdCut 0x50000000 3)).accept []) = .next u :=
  ⟨by decide, by decide, _, rfl⟩

/-- The invariant holds of a state in which every valid flag it speaks of is set. -/
theorem full_inv : full.Inv where
  config := by decide
  rxForm := by decide
  rxSpace := by decide
  txForm := by decide
  txSpace := by decide
  freqReady := by decide
  valRange := by decide
  pulseRange := by decide
  dutyReady := by decide
  txlenRange := by decide
  selRange := by decide
  idle := by decide

theorem fullWith_inv (x : Input) : (fullWith x).Inv :=
  ⟨full_inv.config, full_inv.rxForm, full_inv.rxSpace, full_inv.txForm, full_inv.txSpace, full_inv.freqReady,
    full_inv.valRange, full_inv.pulseRange, full_inv.dutyReady, full_inv.txlenRange, full_inv.selRange,
    full_inv.idle⟩

theorem witness_StepKeepsInvariant : (fullWith (.cmd 0x50000000)).Inv ∧
    (∃ t, step (fullWith (.cmd 0x50000000)) = .next t) ∧
    (fullWith (.cmdCut 0x50000000 3)).Inv ∧ (∃ t, step (fullWith (.cmdCut 0x50000000 3)) = .next t) ∧
    (fullWith .rst).Inv ∧ (∃ t, step (fullWith .rst) = .next t) :=
  ⟨fullWith_inv _, ⟨_, rfl⟩, fullWith_inv _, ⟨_, rfl⟩, fullWith_inv _, ⟨_, rfl⟩⟩
/-- Every index up to 0x40 falls under the last clause exactly when the map assigns it to no register. -/
theorem witness_RdregAnswersRegister : ∀ a : Fin 65,
    (Reg.ofIndex a.val = none ↔ a.val = 0 ∨ (0x0B ≤ a.val ∧ a.val ≤ 0x0F) ∨ (0x15 ≤ a.val ∧ a.val ≤ 0x17) ∨
      (0x1D ≤ a.val ∧ a.val ≤ 0x1F) ∨ (0x25 ≤ a.val ∧ a.val ≤ 0x2F) ∨ 0x40 ≤ a.val) := by decide
theorem witness_WrregWritesRegister :
    ((255 : Nat) < 65536 ∧ (255 : Nat) ≤ 255) ∧ ((256 : Nat) < 65536 ∧ (255 : Nat) < 256) ∧
    (∀ a ∈ [0x05, 0x0A, 0x18, 0x1C, 0x20, 0x24, 0x30, 0x3F], (0x05 ≤ a ∧ a ≤ 0x0A) ∨ (0x18 ≤ a ∧ a ≤ 0x1C) ∨
      (0x20 ≤ a ∧ a ≤ 0x24) ∨ (0x30 ≤ a ∧ a ≤ 0x3F)) ∧
    (∀ a ∈ [0x00, 0x0B, 0x0F, 0x15, 0x17, 0x1D, 0x1F, 0x25, 0x2F, 0x40, 0xFF], a = 0 ∨
      (0x0B ≤ a ∧ a ≤ 0x0F) ∨ (0x15 ≤ a ∧ a ≤ 0x17) ∨ (0x1D ≤ a ∧ a ≤ 0x1F) ∨ (0x25 ≤ a ∧ a ≤ 0x2F) ∨
      0x40 ≤ a) := by decide
theorem witness_RxwrStoresOneByte : full.rx.wf = true ∧ 63 < full.cfg.frameMax ∧ full.cfg.frameMax ≤ 64 := by
  decide
theorem witness_TxrdAnswersByte : 31 < full.cfg.txSize ∧ full.cfg.txSize ≤ 32 := by decide
theorem witness_TicksChangeNoCommand : Instr.apply ≠ .tack ∧ Instr.apply ≠ .rdreg 0x09 ∧
    Instr.rdreg 0x08 ≠ .rdreg 0x09 := by decide
theorem witness_AcqReadsFiveChannels : window.cfg.tSettleMin ≤ window.settle.toNat ∧
    window.env.conversions[4]? = some ⟨#v[0, 0, 0, 0, 3350, 0, 0, 0], 7⟩ := by decide
theorem witness_MapSensorIsNearest : (3350 : Nat) ≤ 3350 ∧ (1200 : Nat) < 1201 := by decide
theorem witness_MapSensorProperties : (0 : Nat) < 65535 ∧ (65535 : Nat) ≤ 65535 ∧ (3350 : Nat) = 3350 := by decide

/-- Other samples: on channel 0 the same, on the others not, another ghost. -/
def samples' : List Conversion := [⟨#v[1200, 1, 2, 3, 4, 5, 6, 7], 9⟩]

theorem witness_SettledChannelsDoNotGhost : window.cfg.tSettleMin ≤ window.settle.toNat ∧
    samples[(0 : Fin 5).val]? = some ⟨#v[1200, 0, 0, 0, 0, 0, 0, 0], 7⟩ ∧
    samples'[(0 : Fin 5).val]? = some ⟨#v[1200, 1, 2, 3, 4, 5, 6, 7], 9⟩ ∧
    (∃ t, exec .acq { window with env := { window.env with conversions := samples } } = .next t) ∧
    (∃ t, exec .acq { window with env := { window.env with conversions := samples' } } = .next t) :=
  ⟨by decide, by decide, by decide, ⟨_, rfl⟩, ⟨_, rfl⟩⟩
theorem witness_DecimalDigits : ([0, 9, 10, 99, 100, 255].map fun n => (decDigits n).length) =
    [1, 1, 2, 2, 3, 3] ∧ (255 : Nat) < 256 := by decide
theorem witness_EncWritesFrame : full.tx.wf = true ∧ (∀ i : Fin 5, full.readv[i] = true) ∧
    (∃ i : Fin 5, base.readv[i] = false) ∧ base.tx.wf = true ∧ (255 : Nat) < 256 := by decide
theorem witness_EncodedFrameLength : (255 : Nat) < 256 ∧ (9 : Nat) < 256 ∧ (9 : Nat) ≤ 9 := by decide
theorem witness_TokensAreMaximalRuns : tokens [0x20, 0x48, 0x31] ≠ [] ∧
    (∀ x ∈ [0x48#8, 0x2D#8], x ≠ 0x2C ∧ x ≠ 0x20) ∧ ([0x48#8, 0x2D#8] ≠ []) := by decide
theorem witness_ParseIntAcceptsIntegers : (∀ b ∈ [0x30#8, 0x39#8], 0x30 ≤ b.toNat ∧ b.toNat ≤ 0x39) ∧
    parseInt [0x2D, 0x33] = some (-3) ∧ parseInt [0x2D] = none ∧ parseInt [] = none := by decide
/-- 65 bytes; a header that is not "H" alone; six and five and four tokens; a token that fails. -/
theorem witness_DecodeChecksInOrder : Config.tc1.frameMax < (List.replicate 65 0x48#8).length ∧
    (frame3.length ≤ Config.tc1.frameMax ∧ (tokens (0x48 :: frame3)).head? ≠ some [0x48]) ∧
    (tokens [0x48, 0x2C, 0x31] = [0x48] :: [[0x31]]) ∧
    (tokens frameBad = [0x48] :: [[0x31], [0x32], [0x61], [0x33], [0x34]] ∧ parseInt [0x61] = none) ∧
    tokens frame09409 = [[0x48], [0x30], [0x39], [0x34], [0x30], [0x39]] ∧
    tokens frame3 = [[0x48], [0x33], [0x30], [0x31], [0x32], [0x33], [0x34]] ∧
    parseInt [0x39] = some 9 := by decide
theorem witness_DecAppliesVerdict : (tc1 Env.silent).cfg.frameMax < ({ base with rxlen := 65 } : State).rxlen.toNat ∧
    (framed base frame3).rxlen.toNat ≤ (framed base frame3).cfg.frameMax ∧
    decodeFrame .tc1 ((List.range 11).map (framed base frameBad).rx.read) = .reject .badToken ∧
    decodeFrame .tc1 ((List.range 13).map (framed base frame3).rx.read) = .accept true 3 #v[0, 1, 2, 3, 4] ∧
    decodeFrame .tc1 ((List.range 11).map (framed base frame09409).rx.read) =
      .accept false 0 #v[0, 9, 4, 0, 9] := by decide
theorem witness_DecodeOfEncodedFrame : 64 ≤ Config.tc1.frameMax ∧ (255 : Nat) < 256 := by decide

/-- The hand, with the bytes of the glove's frame in RX. -/
def hand : State := framed base frame09409

theorem witness_GloveReadingsReachHand : ∃ g', (measured #v[0, 9, 4, 0, 9]).tx.wf = true ∧
    64 ≤ hand.cfg.frameMax ∧ (∀ i : Fin 5, (measured #v[0, 9, 4, 0, 9]).readv[i] = true) ∧
    (∀ i : Fin 5, (measured #v[0, 9, 4, 0, 9]).reading[i].toNat ≤ hand.cfg.vmax.toNat) ∧
    exec (.enc false 0) (measured #v[0, 9, 4, 0, 9]) = .next g' ∧ hand.rxlen = g'.txlen ∧
    (∀ k, k < g'.txlen.toNat → hand.rx.read k = g'.tx.read k) :=
  ⟨_, by decide, by decide, by decide, by decide, rfl, by decide, by decide⟩
theorem witness_RxloadPlacesText : full.rx.wf = true ∧ (List.replicate 64 0x48#8).length ≤ full.cfg.frameMax ∧
    (List.replicate 64 0x48#8).length ≤ 255 ∧ ([] : List Byte).length ≤ full.cfg.frameMax := by decide
theorem witness_PulseIsNearest : Config.tc1.Valid := by decide
theorem witness_PulseInRange : Config.tc1.Valid := by decide
/-- A configuration with FLOOR 0, the smallest VMAX, finger 4 inverted and finger 0 not. -/
theorem witness_PulseProperties : let c : Config := { Config.tc1 with floor := 0, vmax := 1 }
    c.floor = 0 ∧ 1 ≤ c.vmax.toNat ∧ c.chInvert[(4 : Fin 5)] = true ∧ c.chInvert[(0 : Fin 5)] = false := by
  decide
theorem witness_CanonicalInversions : Config.tc1.vmax = 9 ∧ Config.tc1.floor = 2 ∧
    Config.tc1.invertAll = true ∧ Config.tc1.chInvert = #v[false, false, false, false, true] ∧
    (3 : Fin 5) ≠ 4 := by decide
theorem witness_MapvStoresPulse : 4 < 5 ∧ 4 ≤ 4 ∧ base.valv = false ∧ full.valv = true := by decide
theorem witness_MapiStoresPulse : 4 < 5 := by decide
theorem witness_PrescaleValue : (1 : Nat) ≤ 1 ∧ Config.tc1.oscHz = 25000000 := by decide
theorem witness_PwminitSucceeds : (withReplies (okReplies 5 0x11) base).phase = .uninit ∧
    (1 : Nat) ≤ 1 ∧ (65535 : Nat) < 65536 ∧
    (∀ k, k < 5 → ((withReplies (okReplies 5 0x11) base).replyAt k).ok = true) := by decide
/-- A failure at each of the five bus steps. -/
theorem witness_PwminitFailsAtStep : ∀ n : Fin 5,
    let s := withReplies (okReplies n.val 0x11 ++ [⟨false, 0⟩]) base
    s.phase = .uninit ∧ (∀ k, k < n.val → (s.replyAt k).ok = true) ∧ (s.replyAt n.val).ok = false := by decide
theorem witness_PwminitRefused : ready.phase ≠ .uninit ∧ ({ base with phase := .dead } : State).phase ≠ .uninit ∧
    base.phase = .uninit := by decide
/-- Both at the count's ceiling (a product of 1000000) and below it. -/
theorem witness_OffCountValue : Config.tc1.Valid ∧
    1000000 ≤ max Config.tc1.drvMinUs.toNat (min 1000 Config.tc1.drvMaxUs.toNat) * 1000 ∧ (0 : Nat) ≤ 65535 := by
  decide
theorem witness_BurstCarriesCount : Config.tc1.Valid ∧ (0 : Fin 16) < 1 ∧ (14 : Fin 16) < 15 := by decide
theorem witness_PwmsetWritesBurst : 15 < 16 ∧ 15 ≤ 15 ∧ base.freq = 0 ∧ ready.freq ≠ 0 ∧
    (withReplies [⟨true, 0⟩] ready).env.busReply.ok = true ∧
    (withReplies [⟨false, 0⟩] ready).env.busReply.ok = false := by decide
theorem witness_PwmsetrSendsStoredPulse : 4 < 5 ∧ base.pulsev[(4 : Fin 5)] = false ∧
    (full.pulsev[(4 : Fin 5)] = true ∧ ({ full with freq := 0 } : State).freq = 0) ∧ full.freq ≠ 0 ∧
    (withReplies [⟨true, 0⟩] full).env.busReply.ok = true ∧
    (withReplies [⟨false, 0⟩] full).env.busReply.ok = false := by decide
theorem witness_ApplyRejectChangesNothing :
    ({ base with rxlen := 65 } : State).cfg.frameMax < ({ base with rxlen := 65 } : State).rxlen.toNat ∧
    ({ base with rxlen := 64 } : State).rxlen.toNat ≤ ({ base with rxlen := 64 } : State).cfg.frameMax ∧
    decodeFrame .tc1 ((List.range 11).map (framed base frameBad).rx.read) = .reject .badToken := by decide
theorem witness_ApplyWritesFiveFingers : full.cfg.Valid ∧ full.rxlen.toNat ≤ full.cfg.frameMax ∧
    full.freq ≠ 0 ∧ decodeFrame full.cfg ((List.range full.rxlen.toNat).map full.rx.read) =
      .accept false 0 #v[0, 9, 4, 0, 9] := by decide
theorem witness_ApplySkipsWithoutFrequency : hand.rxlen.toNat ≤ hand.cfg.frameMax ∧ hand.freq = 0 ∧
    decodeFrame hand.cfg ((List.range hand.rxlen.toNat).map hand.rx.read) =
      .accept false 0 #v[0, 9, 4, 0, 9] := by decide
theorem witness_ApplyEqualsCommandSequence :
    (∃ d, full.cfg.Valid ∧ exec .dec full = .next d ∧ d.response = some (.ok, 0)) ∧
    (∃ d, base.cfg.Valid ∧ exec .dec base = .next d ∧ d.response = some (.badHeader, 0)) :=
  ⟨⟨_, by decide, rfl, by decide⟩, ⟨_, by decide, rfl, by decide⟩⟩
/-- PHASE leaves UNINIT by PWMINIT; in READY it stays. -/
theorem witness_PhaseLeftOnlyByReset :
    (∃ t, step (fed [.cmd 0x40000032]) = .next t) ∧ (fed [.cmd 0x40000032]).env.input.head? ≠ some .rst ∧
    (∀ w n, (fed [.cmd 0x40000032]).env.input.head? ≠ some (.cmdCut w n)) ∧
    left State.phase 0x40000032 (withReplies (okReplies 5 0) base) = some .ready ∧
    (fullWith (.cmd 0x40000032)).phase ≠ .uninit ∧ (∃ t, step (fullWith (.cmd 0x40000032)) = .next t) :=
  ⟨⟨_, rfl⟩, by decide, fun w n => by simp [fed, tc1, State.resetWith], by decide, by decide, ⟨_, rfl⟩⟩
theorem witness_NoBurstWithoutFrequency : hand.freq = 0 ∧ ∃ t, exec .apply hand = .next t :=
  ⟨by decide, _, rfl⟩
theorem witness_OnlyBurstsAfterInit : full.phase ≠ .uninit ∧ ∃ t, exec .apply full = .next t :=
  ⟨by decide, _, rfl⟩
theorem witness_NoWaitOnHotPath : Instr.apply ≠ .acq ∧ (∀ hz, Instr.apply ≠ .pwminit hz) ∧
    ∃ t, exec .apply full = .next t := ⟨by decide, fun _ => by simp, _, rfl⟩
/-- NOP is none of the commands any clause names, and `full` has TICK set. -/
theorem witness_CommandsKeepWhatTheyDoNotWrite : (∃ t, exec .nop full = .next t) ∧ full.tick = true ∧
    (∀ a v, Instr.nop ≠ .wrreg a v) ∧ Instr.nop ≠ .acq ∧ Instr.nop ≠ .dec ∧ Instr.nop ≠ .apply ∧
    (∀ f, Instr.nop ≠ .mapv f) ∧ (∀ f v, Instr.nop ≠ .mapi f v) ∧ (∀ c us, Instr.nop ≠ .pwmset c us) ∧
    (∀ f, Instr.nop ≠ .pwmsetr f) ∧ (∀ hz, Instr.nop ≠ .pwminit hz) ∧ Instr.nop ≠ .tack ∧
    (∀ w q, Instr.nop ≠ .enc w q) ∧ (∀ a b, Instr.nop ≠ .rxwr a b) :=
  ⟨⟨_, rfl⟩, by decide, by simp, by decide, by decide, by decide, by simp, by simp, by simp, by simp, by simp,
    by decide, by simp, by simp⟩
theorem witness_ValidFlagsStaySet : (∃ t, step (fullWith (.cmd 0x50000000)) = .next t) ∧
    (fullWith (.cmd 0x50000000)).env.input.head? ≠ some .rst ∧
    (∀ w n, (fullWith (.cmd 0x50000000)).env.input.head? ≠ some (.cmdCut w n)) ∧
    full.readv[(4 : Fin 5)] = true ∧ full.valv = true ∧ full.pulsev[(4 : Fin 5)] = true ∧
    full.dutyv[(15 : Fin 16)] = true :=
  ⟨⟨_, rfl⟩, by decide, fun w n => by simp [fullWith], by decide, by decide, by decide, by decide⟩

/-- `base` with other contents where no flag vouches for any. -/
def unvouched : State :=
  { base with reading := #v[1, 2, 3, 4, 5], val := #v[6, 7, 8, 9, 9], pulse := #v[1, 2, 3, 4, 5]
              duty := Vector.replicate 16 7 }

theorem witness_UnwrittenContentsUnobservable : SameVouched base unvouched ∧ base ≠ unvouched ∧
    ∃ t, exec (.rdreg 0x10) base = .next t :=
  ⟨⟨by decide, by decide, by decide, by decide, by decide⟩, by decide, _, rfl⟩

end Sys2Proof.Tests
end

section
/-! PROOFS. The statements of 00_scope.md: every command answers once (R15), `dec` (R19), and the glove's
readings at the hand (R8). -/

namespace Sys2Proof.Machine

/-! ### Operations that give no response -/

/-- From `s` to `t` the events grew, and none of the new ones is a response. Of TICK it says nothing, which
TACK clears. -/
def AddsNoResponse (s t : State) : Prop :=
  ∃ evs, t.events = s.events ++ evs ∧ evs.all (fun e => !e.isRsp) = true

theorem AddsNoResponse.of_grows {s t : State} {ev : Event} (h : Grows s t [ev])
    (hev : ev.isRsp = false) : AddsNoResponse s t :=
  ⟨[ev], h.events, by simp [hev]⟩

/-- Writes of registers and flags add no event. -/
theorem AddsNoResponse.of_env {s t : State} (h : t.env = s.env) : AddsNoResponse s t :=
  ⟨[], by simp [State.events, h], rfl⟩

theorem AddsNoResponse.refl (s : State) : AddsNoResponse s s := .of_env rfl

theorem AddsNoResponse.trans {s t u : State} (h : AddsNoResponse s t) (h' : AddsNoResponse t u) :
    AddsNoResponse s u := by
  obtain ⟨evs, he, hn⟩ := h
  obtain ⟨evs', he', hn'⟩ := h'
  exact ⟨evs ++ evs', by rw [he', he, List.append_assoc], by rw [List.all_append, hn, hn']; rfl⟩

theorem AddsNoResponse.select (s : State) (v : BitVec 3) : AddsNoResponse s (s.select v) :=
  .of_grows (Grows.select s v) rfl

theorem AddsNoResponse.waitCycles (s : State) (n : Nat) : AddsNoResponse s (s.waitCycles n) :=
  .of_grows (Grows.waitCycles s n) rfl

theorem AddsNoResponse.sample (s : State) : AddsNoResponse s s.sample.2 :=
  .of_grows (Grows.sample s) rfl

theorem AddsNoResponse.busRead {s t : State} {reg : Byte} {answer : Option Byte}
    (h : s.busRead reg = (answer, t)) : AddsNoResponse s t := by
  have hg := Grows.busRead s reg
  rw [h] at hg
  exact .of_grows hg rfl

theorem AddsNoResponse.busWrite {s t : State} {reg : Byte} {bytes : List Byte} {ok : Bool}
    (h : s.busWrite reg bytes = (ok, t)) : AddsNoResponse s t := by
  have hg := Grows.busWrite s reg bytes
  rw [h] at hg
  exact .of_grows hg rfl

/-- A loop adds no response if none of its turns does; `proj` is the state in what the loop carries. -/
theorem AddsNoResponse.foldl {α β : Type} (proj : β → State) (f : β → α → β)
    (hf : ∀ b a, AddsNoResponse (proj b) (proj (f b a))) (l : List α) (b : β) :
    AddsNoResponse (proj b) (proj (l.foldl f b)) := by
  induction l generalizing b with
  | nil => exact .refl _
  | cons a l ih => exact (hf b a).trans (ih (f b a))

/-- One channel of ACQ ends by storing the reading, which is no event (41_acquisition.md R133). -/
theorem State.acqChannel_env (settle lo hi : Nat) (s : State) (ch : Fin 5) :
    (s.acqChannel settle lo hi ch).env =
      ((s.select (BitVec.ofNat 3 ch.val)).waitCycles settle).sample.2.env := rfl

theorem AddsNoResponse.acqChannel (settle lo hi : Nat) (s : State) (ch : Fin 5) :
    AddsNoResponse s (s.acqChannel settle lo hi ch) :=
  (((AddsNoResponse.select s _).trans (.waitCycles _ settle)).trans (.sample _)).trans
    (.of_env (s.acqChannel_env settle lo hi ch))

/-- The bus steps of PWMINIT give no response, whichever of them fails (44_pwm.md R204, R207). -/
theorem AddsNoResponse.initSteps (p : Byte) (s : State) : AddsNoResponse s (s.initSteps p).2 := by
  unfold State.initSteps
  split
  · next h1 => exact .busRead h1
  · next h1 =>
    refine (AddsNoResponse.busRead h1).trans ?_
    split
    · next h2 => exact .busWrite h2
    · next h2 =>
      refine (AddsNoResponse.busWrite h2).trans ?_
      split
      · next h3 => exact .busWrite h3
      · next h3 =>
        refine (AddsNoResponse.busWrite h3).trans ?_
        split
        · next h4 => exact .busWrite h4
        · next s4 h4 =>
          refine (AddsNoResponse.busWrite h4).trans
            ((AddsNoResponse.waitCycles s4 s4.cfg.oscStabCycles).trans ?_)
          split <;> next h5 => exact .busWrite h5

theorem AddsNoResponse.setPulse (c us : Nat) (s : State) : AddsNoResponse s (s.setPulse c us).state := by
  unfold State.setPulse
  split
  · exact .refl s
  · split
    · exact .refl s
    · dsimp only
      split
      · next hw => exact .busWrite hw
      · next hw => exact (AddsNoResponse.busWrite hw).trans (.of_env rfl)

theorem AddsNoResponse.finger (a : ApplyProgress) (f : Fin 5) :
    AddsNoResponse a.state (a.finger f).state :=
  (AddsNoResponse.of_env rfl).trans (.setPulse _ _ (a.state.storePulse f _))

theorem AddsNoResponse.applyFingers (s : State) : AddsNoResponse s s.applyFingers.state :=
  .foldl ApplyProgress.state ApplyProgress.finger .finger _ ⟨0, false, s⟩

/-! ### Every command answers -/

/-- From `s` to `t` there were events that are no response, and then one response, with which BUSY fell. -/
def Answers (s t : State) : Prop :=
  ∃ u st d, AddsNoResponse s u ∧ t = u.respond st d

theorem Answers.respond {s u : State} {st : Status} {d : Word16} (h : AddsNoResponse s u) :
    Answers s (u.respond st d) :=
  ⟨u, st, d, h, rfl⟩

/-- A command that writes registers alone, or nothing, before its response. -/
theorem Answers.registers {s u : State} {st : Status} {d : Word16} (h : u.env = s.env) :
    Answers s (u.respond st d) :=
  .respond (.of_env h)

/-- What the events and BUSY are after a command that answers. -/
theorem Answers.events {s t : State} (h : Answers s t) :
    t.busy = false ∧ ∃ evs st d, t.events = s.events ++ evs ++ [.rsp st d] ∧
      evs.all (fun e => !e.isRsp) = true := by
  obtain ⟨u, st, d, ⟨evs, he, hn⟩, rfl⟩ := h
  exact ⟨rfl, evs, st, d, by rw [(Leaves.respond u st d).events, he], hn⟩

theorem State.writeReg_env (s : State) (r : Reg) (imm : Nat) : (s.writeReg r imm).env = s.env := by
  cases r <;> rfl

theorem Answers.rdreg (a : Nat) (s : State) : Answers s (s.rdreg a) := by
  unfold State.rdreg
  split
  · exact .registers rfl
  · split <;> exact .registers rfl

theorem Answers.wrreg (a imm : Nat) (s : State) : Answers s (s.wrreg a imm) := by
  unfold State.wrreg
  split
  · exact .registers rfl
  · next r _ =>
    split
    · exact .registers rfl
    · split
      · exact .registers rfl
      · exact .registers (s.writeReg_env r imm)

theorem Answers.rxwr (a byte : Nat) (s : State) : Answers s (s.rxwr a byte) := by
  unfold State.rxwr
  split <;> exact .registers rfl

theorem Answers.txrd (a : Nat) (s : State) : Answers s (s.txrd a) := by
  unfold State.txrd
  split <;> exact .registers rfl

theorem Answers.acq (s : State) : Answers s s.acq :=
  .respond (.foldl id _ (.acqChannel _ _ _) _ s)

theorem Answers.enc (withSeq : Bool) (seq : Nat) (s : State) : Answers s (s.enc withSeq seq) := by
  unfold State.enc
  split <;> exact .registers rfl

theorem Answers.dec (s : State) : Answers s s.dec := by
  unfold State.dec
  split <;> exact .registers rfl

theorem Answers.mapv (f : Nat) (s : State) : Answers s (s.mapv f) := by
  unfold State.mapv
  split
  · exact .registers rfl
  · split <;> exact .registers rfl

theorem Answers.mapi (f : Nat) (v : Int) (s : State) : Answers s (s.mapi f v) := by
  unfold State.mapi
  split <;> exact .registers rfl

theorem Answers.pwminit (hz : Nat) (s : State) : Answers s (s.pwminit hz) := by
  unfold State.pwminit
  split
  · exact .registers rfl
  · split
    · exact .registers rfl
    · have hsteps := AddsNoResponse.initSteps (prescaleByte s.cfg hz) s
      dsimp only
      split <;> next hrun =>
        rw [hrun] at hsteps
        exact .respond (hsteps.trans (.of_env rfl))

theorem Answers.pulseFinish {s : State} {r : PulseResult} (h : AddsNoResponse s r.state) :
    Answers s r.finish := by
  unfold PulseResult.finish
  split <;> exact .respond h

theorem Answers.pwmsetr (f : Nat) (s : State) : Answers s (s.pwmsetr f) := by
  unfold State.pwmsetr
  split
  · exact .registers rfl
  · split
    · exact .pulseFinish (.setPulse _ _ s)
    · exact .registers rfl

theorem Answers.applyFinish {s : State} {a : ApplyProgress} (h : AddsNoResponse s a.state) :
    Answers s a.finish := by
  unfold ApplyProgress.finish
  split
  · exact .respond h
  · split <;> exact .respond h

theorem Answers.apply (s : State) : Answers s s.apply := by
  unfold State.apply
  split
  · exact .registers rfl
  · exact .applyFinish ((AddsNoResponse.of_env rfl).trans (.applyFingers (s.storeFrame _ _ _)))

/-- Every command answers a next state, and does so with one response (00_scope.md R15). -/
theorem exec_answers (i : Instr) (s : State) : ∃ t, exec i s = .next t ∧ Answers s t := by
  cases i with
  | nop => exact ⟨_, rfl, .registers rfl⟩
  | rdreg a => exact ⟨_, rfl, .rdreg a s⟩
  | wrreg a imm => exact ⟨_, rfl, .wrreg a imm s⟩
  | rxwr a byte => exact ⟨_, rfl, .rxwr a byte s⟩
  | txrd a => exact ⟨_, rfl, .txrd a s⟩
  | tack => exact ⟨_, rfl, .registers rfl⟩
  | acq => exact ⟨_, rfl, .acq s⟩
  | enc withSeq seq => exact ⟨_, rfl, .enc withSeq seq s⟩
  | dec => exact ⟨_, rfl, .dec s⟩
  | mapv f => exact ⟨_, rfl, .mapv f s⟩
  | mapi f v => exact ⟨_, rfl, .mapi f v s⟩
  | pwminit hz => exact ⟨_, rfl, .pwminit hz s⟩
  | pwmset c us => exact ⟨_, rfl, .pulseFinish (.setPulse c us s)⟩
  | pwmsetr f => exact ⟨_, rfl, .pwmsetr f s⟩
  | apply => exact ⟨_, rfl, .apply s⟩

/-- Settles O14: each command's effect ends in one `respond`, and no operation before it responds. -/
theorem everyCommandAnswersOnce : Obligations.EveryCommandAnswersOnce := by
  intro i s
  obtain ⟨t, hexec, hans⟩ := exec_answers i s
  obtain ⟨hbusy, evs, st, d, hevs, hquiet⟩ := hans.events
  exact ⟨t, evs, st, d, hexec, hbusy, hevs, hquiet⟩

/-! ### Decimal digits -/

/-- A decimal digit's byte is 0x30 and the digit. -/
theorem digitByte_toNat {d : Nat} (h : d < 10) : (digitByte d).toNat = 0x30 + d := by
  rw [digitByte, BitVec.toNat_ofNat, Nat.mod_eq_of_lt (by omega)]

theorem isDigit_iff {b : Byte} : isDigit b = true ↔ 0x30 ≤ b.toNat ∧ b.toNat ≤ 0x39 := by
  simp [isDigit]

theorem isDigit_digitByte {d : Nat} (h : d < 10) : isDigit (digitByte d) = true := by
  rw [isDigit_iff, digitByte_toNat h]
  omega

theorem digitByte_ne_zeroDigit {d : Nat} (h : d < 10) (h0 : d ≠ 0) : digitByte d ≠ 0x30 := by
  intro he
  have hval := digitByte_toNat h
  rw [he] at hval
  exact h0 (by simpa using hval)

/-- The bytes below the digits, among them the delimiters and the signs, are no digit. -/
theorem ne_of_isDigit {b d : Byte} (hb : isDigit b = true) (hd : d.toNat < 0x30) : b ≠ d := by
  rintro rfl
  exact absurd (isDigit_iff.1 hb).1 (by omega)

theorem decDigits_length_mem (n : Nat) : 1 ≤ (decDigits n).length ∧ (decDigits n).length ≤ 3 := by
  unfold decDigits
  split
  · simp
  · split <;> simp

theorem decDigits_ne_nil (n : Nat) : decDigits n ≠ [] :=
  List.ne_nil_of_length_pos (decDigits_length_mem n).1

theorem isDigit_of_mem_decDigits {n : Nat} (hn : n < 256) {b : Byte} (hb : b ∈ decDigits n) :
    isDigit b = true := by
  have hd : ∀ d, d < 10 → isDigit (digitByte d) = true := fun _ => isDigit_digitByte
  unfold decDigits at hb
  split at hb
  · next h => exact List.mem_singleton.1 hb ▸ hd n h
  · split at hb <;> simp only [List.mem_cons, List.not_mem_nil, or_false] at hb
    · rcases hb with rfl | rfl <;> exact hd _ (by omega)
    · rcases hb with rfl | rfl | rfl <;> exact hd _ (by omega)

theorem digitsValue_decDigits {n : Nat} (hn : n < 256) : digitsValue (decDigits n) = n := by
  unfold decDigits
  split
  · next h => simp [digitsValue, digitByte_toNat h]
  · split
    · simp only [digitsValue, List.foldl, digitByte_toNat (show n / 10 < 10 by omega),
        digitByte_toNat (show n % 10 < 10 by omega)]
      omega
    · simp only [digitsValue, List.foldl, digitByte_toNat (show n / 100 < 10 by omega),
        digitByte_toNat (show n / 10 % 10 < 10 by omega), digitByte_toNat (show n % 10 < 10 by omega)]
      omega

theorem decDigits_head_ne_zeroDigit {n : Nat} (hn : n < 256) (hlen : 2 ≤ (decDigits n).length) :
    (decDigits n).head? ≠ some 0x30 := by
  unfold decDigits at hlen ⊢
  split
  · next h => simp [h] at hlen
  · split
    · exact fun h => digitByte_ne_zeroDigit (by omega) (by omega) (Option.some.inj h)
    · exact fun h => digitByte_ne_zeroDigit (by omega) (by omega) (Option.some.inj h)

/-- Settles O26, by the three lengths of a number below 256. -/
theorem decimalDigits : Obligations.DecimalDigits := fun n hn =>
  ⟨(decDigits_length_mem n).1, (decDigits_length_mem n).2,
    fun _ hb => isDigit_iff.1 (isDigit_of_mem_decDigits hn hb), digitsValue_decDigits hn,
    decDigits_head_ne_zeroDigit hn⟩

/-! ### The tokens of an encoded frame -/

/-- A digit is no delimiter. -/
theorem isDelim_of_isDigit {b : Byte} (h : isDigit b = true) : isDelim b = false := by
  simp [isDelim, ne_of_isDigit h (d := commaByte) (by decide), ne_of_isDigit h (d := spaceByte) (by decide)]

theorem isDelim_of_mem_decDigits {n : Nat} (hn : n < 256) {b : Byte} (hb : b ∈ decDigits n) :
    isDelim b = false :=
  isDelim_of_isDigit (isDigit_of_mem_decDigits hn hb)

/-- Bytes that are no delimiters lengthen the run begun. -/
theorem tokensFrom_append (cur : Token) {t : List Byte} (ht : ∀ b ∈ t, isDelim b = false) (bs : List Byte) :
    tokensFrom cur (t ++ bs) = tokensFrom (cur ++ t) bs := by
  induction t generalizing cur with
  | nil => simp
  | cons b t ih =>
    obtain ⟨hb, ht'⟩ := List.forall_mem_cons.1 ht
    rw [List.cons_append, tokensFrom, hb, if_neg (by decide), ih _ ht', List.append_assoc]
    rfl

/-- A comma ends the run begun. -/
theorem tokensFrom_comma {cur : Token} (h : cur ≠ []) (bs : List Byte) :
    tokensFrom cur (commaByte :: bs) = cur :: tokensFrom [] bs := by
  rw [tokensFrom, if_pos (by decide), if_neg h]

/-- Runs with a comma before each but the first are the tokens. -/
theorem tokensFrom_commaSeparated {cur : Token} (hcur : cur ≠ []) (ts : List Token)
    (hts : ∀ t ∈ ts, t ≠ [] ∧ ∀ b ∈ t, isDelim b = false) :
    tokensFrom cur (ts.flatMap (commaByte :: ·)) = cur :: ts := by
  induction ts generalizing cur with
  | nil => simp [tokensFrom, hcur]
  | cons t ts ih =>
    obtain ⟨⟨hne, ht⟩, hts'⟩ := List.forall_mem_cons.1 hts
    rw [List.flatMap_cons, List.cons_append, tokensFrom_comma hcur, tokensFrom_append [] ht,
      List.nil_append, ih hne hts']

/-- The numbers of a frame in their order: the sequence number, if there is one, and the readings. -/
def frameNumbers (withSeq : Bool) (seq : Nat) (r : List Nat) : List Nat :=
  (if withSeq then [seq] else []) ++ r

theorem frameNumbers_lt (withSeq : Bool) {seq : Nat} (hseq : seq < 256) (r : Vector Byte 5) :
    ∀ n ∈ frameNumbers withSeq seq (r.toList.map (·.toNat)), n < 256 := by
  intro n hn
  rcases List.mem_append.1 hn with hn | hn
  · cases withSeq with
    | false => simp at hn
    | true => exact List.mem_singleton.1 hn ▸ hseq
  · obtain ⟨b, -, rfl⟩ := List.mem_map.1 hn
    exact b.isLt

/-- An encoded frame is the header and its numbers, a comma before each (43_frame.md R172). -/
theorem encodeFrame_eq (withSeq : Bool) (seq : Nat) (r : List Nat) :
    encodeFrame withSeq seq r =
      headerByte :: ((frameNumbers withSeq seq r).map decDigits).flatMap (commaByte :: ·) := by
  cases withSeq <;> simp [encodeFrame, frameNumbers, List.flatMap_map]

theorem length_commaSeparated_le (ns : List Nat) :
    ((ns.map decDigits).flatMap (commaByte :: ·)).length ≤ 4 * ns.length := by
  induction ns with
  | nil => simp
  | cons n ns ih =>
    have hn := (decDigits_length_mem n).2
    simp only [List.map_cons, List.flatMap_cons, List.length_append, List.length_cons]
    omega

/-- At most four bytes for each number after the header. -/
theorem encodeFrame_length_le (withSeq : Bool) (seq : Nat) (r : List Nat) :
    (encodeFrame withSeq seq r).length ≤ 4 * r.length + 5 := by
  have hlen := length_commaSeparated_le (frameNumbers withSeq seq r)
  have hnum : (frameNumbers withSeq seq r).length ≤ r.length + 1 := by
    cases withSeq <;> simp [frameNumbers]
  rw [encodeFrame_eq, List.length_cons]
  omega

theorem tokens_encodeFrame {withSeq : Bool} {seq : Nat} {r : List Nat}
    (h : ∀ n ∈ frameNumbers withSeq seq r, n < 256) :
    tokens (encodeFrame withSeq seq r) = [headerByte] :: (frameNumbers withSeq seq r).map decDigits := by
  have hts : ∀ t ∈ (frameNumbers withSeq seq r).map decDigits, t ≠ [] ∧ ∀ b ∈ t, isDelim b = false := by
    intro t ht
    obtain ⟨n, hn, rfl⟩ := List.mem_map.1 ht
    exact ⟨decDigits_ne_nil n, fun _ => isDelim_of_mem_decDigits (h n hn)⟩
  rw [encodeFrame_eq, tokens]
  exact (tokensFrom_append [] (t := [headerByte]) (by decide) _).trans
    (tokensFrom_commaSeparated (List.cons_ne_nil _ _) _ hts)

/-! ### The numbers of an encoded frame -/

/-- Digits without a sign are parsed to their value (43_frame.md R178). -/
theorem parseInt_of_isDigit {ds : Token} (hne : ds ≠ []) (h : ∀ b ∈ ds, isDigit b = true) :
    parseInt ds = some (digitsValue ds : Int) := by
  cases ds with
  | nil => exact absurd rfl hne
  | cons b ds =>
    have hb : isDigit b = true := h b List.mem_cons_self
    rw [parseInt, if_neg (ne_of_isDigit hb (by decide)), if_neg (ne_of_isDigit hb (by decide)), parseDigits,
      if_pos ⟨hne, List.all_eq_true.2 h⟩]
    rfl

theorem parseInt_decDigits {n : Nat} (hn : n < 256) : parseInt (decDigits n) = some (n : Int) := by
  rw [parseInt_of_isDigit (decDigits_ne_nil n) fun _ => isDigit_of_mem_decDigits hn,
    digitsValue_decDigits hn]

theorem parseAll_decDigits {ns : List Nat} (h : ∀ n ∈ ns, n < 256) :
    parseAll (ns.map decDigits) = some (ns.map (fun n : Nat => (n : Int))) := by
  induction ns with
  | nil => rfl
  | cons n ns ih =>
    obtain ⟨hn, hns⟩ := List.forall_mem_cons.1 h
    simp [parseAll, parseInt_decDigits hn, ih hns]

/-- A number up to VMAX is left as it is by the clamp on parse (43_frame.md R186). -/
theorem clampValue_of_le {c : Config} {x : Byte} (h : x.toNat ≤ c.vmax.toNat) :
    clampValue c (x.toNat : Int) = x := by
  rw [clampValue, clamp_int_of_mem (by omega) (by omega), BitVec.ofInt_natCast, BitVec.ofNat_toNat,
    BitVec.setWidth_eq]

/-- The five numbers of a vector, written out. -/
theorem vector_five_eq {α : Type} (r : Vector α 5) : r = #v[r[0], r[1], r[2], r[3], r[4]] := by
  ext i hi
  match i with
  | 0 | 1 | 2 | 3 | 4 => rfl

/-- A sequence number below 256 is its own residue (43_frame.md R185). -/
theorem ofInt_mod_of_lt {q : Nat} (h : q < 256) : BitVec.ofInt 8 ((q : Int) % 256) = BitVec.ofNat 8 q := by
  rw [Int.emod_eq_of_lt (by omega) (by omega), BitVec.ofInt_natCast]

/-- The verdict on the numbers of an encoded frame (43_frame.md R176). -/
theorem acceptValues_frameNumbers (c : Config) (withSeq : Bool) {seq : Nat} (hseq : seq < 256)
    (r : Vector Byte 5) :
    acceptValues c ((frameNumbers withSeq seq (r.toList.map (·.toNat))).map (fun n : Nat => (n : Int))) =
      .accept withSeq (if withSeq then BitVec.ofNat 8 seq else 0)
        (r.map fun x => clampValue c (x.toNat : Int)) := by
  rw [vector_five_eq r]
  cases withSeq with
  | false => simp [frameNumbers, acceptValues]
  | true => simp [frameNumbers, acceptValues, ofInt_mod_of_lt hseq]

/-- Decoding an encoded frame accepts it with its sequence number and its values clamped
(43_frame.md R176). -/
theorem decodeFrame_encodeFrame {c : Config} (withSeq : Bool) {seq : Nat} (hseq : seq < 256)
    (r : Vector Byte 5) (hmax : 25 ≤ c.frameMax) :
    decodeFrame c (encodeFrame withSeq seq (r.toList.map (·.toNat))) =
      .accept withSeq (if withSeq then BitVec.ofNat 8 seq else 0)
        (r.map fun x => clampValue c (x.toNat : Int)) := by
  have hnum := frameNumbers_lt withSeq hseq r
  have hlen : (encodeFrame withSeq seq (r.toList.map (·.toNat))).length ≤ 25 := by
    simpa using encodeFrame_length_le withSeq seq (r.toList.map (·.toNat))
  have hcount : (frameNumbers withSeq seq (r.toList.map (·.toNat))).length = 5 ∨
      (frameNumbers withSeq seq (r.toList.map (·.toNat))).length = 6 := by
    cases withSeq <;> simp [frameNumbers]
  rw [decodeFrame, if_neg (by omega), tokens_encodeFrame hnum, decodeTokens, if_neg (by simp),
    if_neg (by rw [List.length_map]; omega), parseAll_decDigits hnum]
  exact acceptValues_frameNumbers c withSeq hseq r

/-! ### From the glove to the hand -/

theorem State.allReadv_eq_true {s : State} : s.allReadv = true ↔ ∀ i : Fin 5, s.readv[i] = true := by
  simp [State.allReadv]

/-- What ENC writes when every reading is valid (43_frame.md R173). -/
theorem State.enc_of_readv {s : State} (hr : ∀ i : Fin 5, s.readv[i] = true) (withSeq : Bool) (seq : Nat) :
    let frame := encodeFrame withSeq seq (s.reading.toList.map (·.toNat))
    (s.enc withSeq seq).tx = s.tx.writeBytes 0 frame ∧
      (s.enc withSeq seq).txlen = BitVec.ofNat 8 frame.length := by
  rw [State.enc, if_pos (State.allReadv_eq_true.2 hr)]
  exact ⟨rfl, rfl⟩

/-- Bytes stored from address 0 up are the first bytes. -/
theorem Memory.firstBytes_writeBytes {m : Memory} (h : m.wf = true) (bs : List Byte) :
    (m.writeBytes 0 bs).firstBytes bs.length = bs := by
  refine List.ext_getElem (by simp) fun k _ hk => ?_
  rw [Memory.getElem_firstBytes, Memory.read_writeBytes h, dif_pos (by omega)]
  rfl

/-- The bytes taken from a memory depend on the bytes below the length alone. -/
theorem Memory.firstBytes_congr {m m' : Memory} {n : Nat} (h : ∀ k, k < n → m.read k = m'.read k) :
    m.firstBytes n = m'.firstBytes n :=
  List.map_congr_left fun k hk => h k (List.mem_range.1 hk)

/-- The frame that ENC wrote stands in the first TXLEN bytes of TX. -/
theorem State.enc_firstBytes {s : State} (htx : s.tx.wf = true) (hr : ∀ i : Fin 5, s.readv[i] = true)
    (withSeq : Bool) (seq : Nat) :
    (s.enc withSeq seq).tx.firstBytes (s.enc withSeq seq).txlen.toNat =
      encodeFrame withSeq seq (s.reading.toList.map (·.toNat)) := by
  obtain ⟨htx', htxlen⟩ := State.enc_of_readv hr withSeq seq
  have hlen := encodeFrame_length_le withSeq seq (s.reading.toList.map (·.toNat))
  rw [List.length_map, Vector.length_toList] at hlen
  rw [htx', htxlen, BitVec.toNat_ofNat, Nat.mod_eq_of_lt (by omega), Memory.firstBytes_writeBytes htx]

/-- DEC's verdict on a frame that ENC made and that stands in RX. -/
theorem State.rxVerdict_of_frame {s : State} {withSeq : Bool} {seq : Nat} {r : Vector Byte 5}
    (hseq : seq < 256) (hmax : 25 ≤ s.cfg.frameMax)
    (hrx : s.rx.firstBytes s.rxlen.toNat = encodeFrame withSeq seq (r.toList.map (·.toNat))) :
    s.rxVerdict = .accept withSeq (if withSeq then BitVec.ofNat 8 seq else 0)
      (r.map fun x => clampValue s.cfg (x.toNat : Int)) := by
  have hlen := encodeFrame_length_le withSeq seq (r.toList.map (·.toNat))
  rw [← hrx, Memory.length_firstBytes, List.length_map, Vector.length_toList] at hlen
  rw [State.rxVerdict, if_neg (by omega), hrx, decodeFrame_encodeFrame withSeq hseq r hmax]

/-- DEC on an accepted frame stores it and ends with OK (43_frame.md R179). -/
theorem State.dec_of_accept {s : State} {hasSeq : Bool} {q : Byte} {v : Vector Byte 5}
    (h : s.rxVerdict = .accept hasSeq q v) :
    s.dec = (s.storeFrame hasSeq q v).respond .ok ((BitVec.ofBool hasSeq ++ q).setWidth 16) := by
  rw [State.dec, h]
  rfl

/-- Values none of which is above VMAX are all left as they are. -/
theorem map_clampValue_of_le {c : Config} {r : Vector Byte 5}
    (h : ∀ i : Fin 5, r[i].toNat ≤ c.vmax.toNat) :
    (r.map fun x => clampValue c (x.toNat : Int)) = r := by
  ext1 i hi
  rw [Vector.getElem_map]
  exact clampValue_of_le (h ⟨i, hi⟩)

/-- Settles O34: the hand's RX holds the glove's frame, and its decoding gives back each reading up to VMAX. -/
theorem gloveReadingsReachHand : Obligations.GloveReadingsReachHand := by
  intro g g' h withSeq seq htx hseq hmax hreadv hvmax henc hrxlen hlink
  obtain rfl : g.enc withSeq seq = g' := by injection henc
  have hrx : h.rx.firstBytes h.rxlen.toNat =
      encodeFrame withSeq seq (g.reading.toList.map (·.toNat)) := by
    rw [hrxlen, Memory.firstBytes_congr hlink, State.enc_firstBytes htx hreadv]
  have hverdict := State.rxVerdict_of_frame hseq (by omega) hrx
  rw [map_clampValue_of_le hvmax] at hverdict
  refine ⟨h.dec, rfl, ?_⟩
  rw [State.dec_of_accept hverdict]
  exact ⟨rfl, rfl, rfl, fun hs => by subst hs; rfl⟩

end Sys2Proof.Machine
end

section
/-! PROOFS. The statements of 10_state.md: what a step writes and keeps (R29 to R42), the invariant, and that
the contents without a value are never seen (R21 to R25). -/

namespace Sys2Proof

/-! ### Decoded commands are well formed -/

/-- A row takes every operand from a field that its range is the width of (30_encoding.md R80, R81). -/
theorem build_wf (o : Opcode) (w : CmdWord) : (o.build w).wf = true := by
  have hA : fieldA w < 256 := (w.extractLsb' 16 8).isLt
  have hImm : fieldImm w < 65536 := (w.extractLsb' 0 16).isLt
  have hByte : fieldByte w < 256 := (w.extractLsb' 0 8).isLt
  have hLow : -32768 ≤ fieldImmSigned w := BitVec.le_toInt (w.extractLsb' 0 16)
  have hHigh : fieldImmSigned w < 32768 := BitVec.toInt_lt (x := w.extractLsb' 0 16)
  cases o <;> simp [Opcode.build, Instr.wf, okA, okImm, okByte, okSigned, hA, hImm, hByte, hLow]
  omega

theorem decode_wf {w : CmdWord} {i : Instr} (h : decode w = .ok i) : i.wf = true := by
  unfold decode at h
  split at h
  · next o _ =>
    injection h with h
    exact h ▸ build_wf o w
  · simp at h

end Sys2Proof

namespace Sys2Proof.Machine

/-! ### What a command writes -/

/-- One write of the command `i`, with what holds where `i` makes it: the write half of the access matrix
(10_state.md R42), row by row, and the outside world's part in a command. -/
inductive CommandWrite (i : Instr) : State → State → Prop where
  /-- An event, the ticks that arrive before it, and what it uses of the outside world; BUSY (R31, R38). -/
  | outside (s : State) {tick : Bool} (busy : Bool) (e : Env) (htick : s.tick = true → tick = true) :
    CommandWrite i s { s with tick := tick, busy := busy, env := e }
  | tackTick (s : State) (hi : i = .tack) : CommandWrite i s { s with tick := false }
  | register (s : State) {a imm : Nat} (r : Reg) (hi : i = .wrreg a imm) : CommandWrite i s (s.writeReg r imm)
  | rxByte (s : State) {a b : Nat} (hi : i = .rxwr a b) (ha : a < s.cfg.frameMax) :
    CommandWrite i s { s with rx := s.rx.write a (BitVec.ofNat 8 b) }
  | select (s : State) (v : BitVec 3) (hi : i = .acq) (hv : v.toNat ≤ 4) : CommandWrite i s (s.select v)
  | reading (s : State) (ch : Fin 5) (v : Byte) (hi : i = .acq) : CommandWrite i s (s.storeReading ch v)
  | txFrame (s : State) {w : Bool} {q : Nat} (bs : List Byte) (hi : i = .enc w q) (hbs : bs.length ≤ 25) :
    CommandWrite i s { s with tx := s.tx.writeBytes 0 bs, txlen := BitVec.ofNat 8 bs.length }
  | frame (s : State) (hasSeq : Bool) (q : Byte) (v : Vector Byte 5) (hi : i = .dec ∨ i = .apply)
    (hv : ∀ f : Fin 5, v[f].toNat ≤ s.cfg.vmax.toNat) : CommandWrite i s (s.storeFrame hasSeq q v)
  | pulse (s : State) (f : Fin 5) (v : Int) (hi : (∃ f, i = .mapv f) ∨ (∃ f v, i = .mapi f v) ∨ i = .apply) :
    CommandWrite i s (s.storePulse f (BitVec.ofNat 16 (valueToPulse s.cfg f v)))
  | duty (s : State) (c : Fin 16) (off : BitVec 12)
    (hi : (∃ c us, i = .pwmset c us) ∨ (∃ f, i = .pwmsetr f) ∨ i = .apply) (hfreq : s.freq ≠ 0) :
    CommandWrite i s (s.storeDuty c off)
  | ready (s : State) {hz : Nat} (hi : i = .pwminit hz) (hphase : s.phase = .uninit) (hz0 : hz ≠ 0) :
    CommandWrite i s { s with freq := BitVec.ofNat 16 hz, phase := .ready }
  | dead (s : State) {hz : Nat} (hi : i = .pwminit hz) (hphase : s.phase = .uninit) :
    CommandWrite i s { s with phase := .dead }

/-- From `s` to `t` by writes of the command `i`, one after another. -/
abbrev CommandWrites (i : Instr) : State → State → Prop := Relation.ReflTransGen (CommandWrite i)

variable {i : Instr} {s t u : State}

/-- What every write keeps, a run of writes keeps. -/
theorem CommandWrites.eq_of_keeps {α : Type} {r : State → α} (hr : ∀ {s t}, CommandWrite i s t → r t = r s)
    (h : CommandWrites i s t) : r t = r s := by
  induction h with
  | refl => rfl
  | tail _ hw ih => exact (hr hw).trans ih

/-- An invariant of every write holds after a run of writes. -/
theorem CommandWrites.invariant {P : State → Prop} (hP : ∀ {s t}, CommandWrite i s t → P s → P t)
    (h : CommandWrites i s t) (hs : P s) : P t := by
  induction h with
  | refl => exact hs
  | tail _ hw ih => exact hP hw ih

/-! ### What a write keeps: the rows of the access matrix (10_state.md R42) -/

theorem CommandWrite.keeps_cfg (h : CommandWrite i s t) : t.cfg = s.cfg := by
  cases h with
  | register r hi => cases r <;> rfl
  | _ => rfl

theorem CommandWrite.keeps_reading (hw : ∀ a v, i ≠ .wrreg a v) (ha : i ≠ .acq) (h : CommandWrite i s t) :
    (t.reading, t.readv) = (s.reading, s.readv) := by
  cases h with
  | register r hi => exact absurd hi (hw _ _)
  | reading ch v hi => exact absurd hi ha
  | _ => rfl

theorem CommandWrite.keeps_frame (hd : i ≠ .dec) (ha : i ≠ .apply) (h : CommandWrite i s t) :
    (t.val, t.valv, t.seq, t.seqv) = (s.val, s.valv, s.seq, s.seqv) := by
  cases h with
  | register r hi => cases r <;> rfl
  | frame _ _ _ hi => exact absurd hi (not_or.2 ⟨hd, ha⟩)
  | _ => rfl

theorem CommandWrite.keeps_pulse (hv : ∀ f, i ≠ .mapv f) (hm : ∀ f v, i ≠ .mapi f v) (ha : i ≠ .apply)
    (h : CommandWrite i s t) : (t.pulse, t.pulsev) = (s.pulse, s.pulsev) := by
  cases h with
  | register r hi => cases r <;> rfl
  | pulse f v hi =>
    obtain ⟨f, hi⟩ | ⟨f, v, hi⟩ | hi := hi
    · exact absurd hi (hv f)
    · exact absurd hi (hm f v)
    · exact absurd hi ha
  | _ => rfl

theorem CommandWrite.keeps_duty (hp : ∀ c us, i ≠ .pwmset c us) (hr : ∀ f, i ≠ .pwmsetr f) (ha : i ≠ .apply)
    (h : CommandWrite i s t) : (t.duty, t.dutyv) = (s.duty, s.dutyv) := by
  cases h with
  | register r hi => cases r <;> rfl
  | duty c off hi =>
    obtain ⟨c, us, hi⟩ | ⟨f, hi⟩ | hi := hi
    · exact absurd hi (hp c us)
    · exact absurd hi (hr f)
    · exact absurd hi ha
  | _ => rfl

theorem CommandWrite.keeps_settings (hw : ∀ a v, i ≠ .wrreg a v) (h : CommandWrite i s t) :
    (t.rawMin, t.rawMax, t.settle, t.rxlen) = (s.rawMin, s.rawMax, s.settle, s.rxlen) := by
  cases h with
  | register r hi => exact absurd hi (hw _ _)
  | _ => rfl

theorem CommandWrite.keeps_sel (ha : i ≠ .acq) (h : CommandWrite i s t) : t.sel = s.sel := by
  cases h with
  | register r hi => cases r <;> rfl
  | select v hi => exact absurd hi ha
  | _ => rfl

theorem CommandWrite.keeps_phase (hp : ∀ hz, i ≠ .pwminit hz) (h : CommandWrite i s t) :
    (t.freq, t.phase) = (s.freq, s.phase) := by
  cases h with
  | register r hi => cases r <;> rfl
  | ready hi => exact absurd hi (hp _)
  | dead hi => exact absurd hi (hp _)
  | _ => rfl

theorem CommandWrite.keeps_tick (ht : i ≠ .tack) (h : CommandWrite i s t) (hs : s.tick = true) :
    t.tick = true := by
  cases h with
  | outside busy e htick => exact htick hs
  | tackTick hi => exact absurd hi ht
  | register r hi => cases r <;> exact hs
  | select => simp [hs]
  | _ => exact hs

theorem CommandWrite.keeps_tx (he : ∀ w q, i ≠ .enc w q) (h : CommandWrite i s t) :
    (t.txlen, t.tx) = (s.txlen, s.tx) := by
  cases h with
  | register r hi => cases r <;> rfl
  | txFrame bs hi => exact absurd hi (he _ _)
  | _ => rfl

theorem CommandWrite.keeps_rx (hx : ∀ a b, i ≠ .rxwr a b) (h : CommandWrite i s t) : t.rx = s.rx := by
  cases h with
  | register r hi => cases r <;> rfl
  | rxByte hi => exact absurd hi (hx _ _)
  | _ => rfl

/-! ### The operations of a command as writes -/

/-- An event writes TICK if a tick arrives before it, and no other register (30_encoding.md R86). -/
theorem CommandWrite.emit (s : State) (e : Env) (ev : Event) : CommandWrite i s (State.emit ev { s with env := e }) :=
  .outside s s.busy _ fun h => by simp [h]

theorem CommandWrites.respond (h : CommandWrites i s u) (st : Status) (d : Word16) :
    CommandWrites i s (u.respond st d) :=
  h.tail (.outside u false _ fun h => by simp [h])

theorem CommandWrites.waitCycles (s : State) (n : Nat) : CommandWrites i s (s.waitCycles n) :=
  .single (.emit s _ _)

theorem CommandWrites.sample (s : State) : CommandWrites i s s.sample.2 :=
  .single (.emit s _ _)

theorem CommandWrites.busRead {reg : Byte} {answer : Option Byte} (h : s.busRead reg = (answer, t)) :
    CommandWrites i s t := by
  obtain rfl : (s.busRead reg).2 = t := by rw [h]
  exact .single (.emit s _ _)

theorem CommandWrites.busWrite {reg : Byte} {bytes : List Byte} {ok : Bool}
    (h : s.busWrite reg bytes = (ok, t)) : CommandWrites i s t := by
  obtain rfl : (s.busWrite reg bytes).2 = t := by rw [h]
  exact .single (.emit s _ _)

/-- A loop makes writes of the command if each of its turns does; `proj` is the state in what it carries. -/
theorem CommandWrites.foldl {α β : Type} (proj : β → State) (f : β → α → β)
    (hf : ∀ b a, CommandWrites i (proj b) (proj (f b a))) (l : List α) (b : β) :
    CommandWrites i (proj b) (proj (l.foldl f b)) := by
  induction l generalizing b with
  | nil => exact .refl
  | cons a l ih => exact (hf b a).trans (ih (f b a))

theorem CommandWrites.acqChannel (settle lo hi : Nat) (s : State) (ch : Fin 5) :
    CommandWrites .acq s (s.acqChannel settle lo hi ch) := by
  have hch : (BitVec.ofNat 3 ch.val).toNat ≤ 4 := by
    rw [BitVec.toNat_ofNat, Nat.mod_eq_of_lt] <;> omega
  exact (((CommandWrites.waitCycles _ settle).head (.select s _ rfl hch)).trans (CommandWrites.sample _)).tail
    (.reading _ ch _ rfl)

/-- The bus steps of PWMINIT write no register, whichever of them fails (44_pwm.md R204, R207). -/
theorem CommandWrites.initSteps (p : Byte) (s : State) : CommandWrites i s (s.initSteps p).2 := by
  unfold State.initSteps
  split
  · next h1 => exact CommandWrites.busRead h1
  · next h1 =>
    refine (CommandWrites.busRead h1).trans ?_
    split
    · next h2 => exact CommandWrites.busWrite h2
    · next h2 =>
      refine (CommandWrites.busWrite h2).trans ?_
      split
      · next h3 => exact CommandWrites.busWrite h3
      · next h3 =>
        refine (CommandWrites.busWrite h3).trans ?_
        split
        · next h4 => exact CommandWrites.busWrite h4
        · next s4 h4 =>
          refine (CommandWrites.busWrite h4).trans
            ((CommandWrites.waitCycles s4 s4.cfg.oscStabCycles).trans ?_)
          split <;> next h5 => exact CommandWrites.busWrite h5

theorem CommandWrites.setPulse (hi : (∃ c us, i = .pwmset c us) ∨ (∃ f, i = .pwmsetr f) ∨ i = .apply)
    (c us : Nat) (s : State) : CommandWrites i s (s.setPulse c us).state := by
  unfold State.setPulse
  split
  · exact .refl
  · split
    · exact .refl
    · next hfreq =>
      dsimp only
      split
      · next hw => exact CommandWrites.busWrite hw
      · next t hw =>
        have hfreq' : t.freq ≠ 0 := by
          obtain rfl : (s.busWrite _ _).2 = t := by rw [hw]
          exact hfreq
        exact (CommandWrites.busWrite hw).tail (.duty t _ _ hi hfreq')

theorem CommandWrites.finger (a : ApplyProgress) (f : Fin 5) :
    CommandWrites .apply a.state (a.finger f).state :=
  (CommandWrites.setPulse (.inr (.inr rfl)) _ _ _).head (.pulse a.state f _ (.inr (.inr rfl)))

theorem CommandWrites.applyFingers (s : State) : CommandWrites .apply s s.applyFingers.state :=
  CommandWrites.foldl ApplyProgress.state ApplyProgress.finger CommandWrites.finger _ ⟨0, false, s⟩

/-! ### The values a command stores -/

theorem clampValue_le (c : Config) (x : Int) : (clampValue c x).toNat ≤ c.vmax.toNat := by
  have hclamp := clamp_int_mem (x := x) (lo := 0) (hi := c.vmax.toNat) (by omega)
  have hvmax := c.vmax.isLt
  rw [clampValue, BitVec.toNat_ofInt]
  omega

theorem acceptValues_le {c : Config} {xs : List Int} {hasSeq : Bool} {q : Byte} {v : Vector Byte 5}
    (h : acceptValues c xs = .accept hasSeq q v) (f : Fin 5) : v[f].toNat ≤ c.vmax.toNat := by
  unfold acceptValues at h
  split at h
  · obtain ⟨-, -, rfl⟩ := Verdict.accept.inj h
    match f with
    | 0 | 1 | 2 | 3 | 4 => exact clampValue_le c _
  · obtain ⟨-, -, rfl⟩ := Verdict.accept.inj h
    match f with
    | 0 | 1 | 2 | 3 | 4 => exact clampValue_le c _
  · cases h

theorem decodeTokens_le {c : Config} {ts : List Token} {hasSeq : Bool} {q : Byte} {v : Vector Byte 5}
    (h : decodeTokens c ts = .accept hasSeq q v) (f : Fin 5) : v[f].toNat ≤ c.vmax.toNat := by
  unfold decodeTokens at h
  split at h
  · cases h
  · split at h
    · cases h
    · split at h
      · cases h
      · split at h
        · cases h
        · exact acceptValues_le h f

/-- Every value of an accepted frame is at most VMAX (10_state.md R22; 43_frame.md R186). -/
theorem State.rxVerdict_le {hasSeq : Bool} {q : Byte} {v : Vector Byte 5}
    (h : s.rxVerdict = .accept hasSeq q v) (f : Fin 5) : v[f].toNat ≤ s.cfg.vmax.toNat := by
  unfold State.rxVerdict decodeFrame at h
  split at h
  · cases h
  · split at h
    · cases h
    · exact decodeTokens_le h f

/-- The fraction of 42_mapping.md R151 is at most 1, inverted or not. -/
theorem pulseNumerator_le (c : Config) (f : Fin 5) (v : Int) : pulseNumerator c f v ≤ pulseWidthSpan c := by
  have hclamp := clamp_int_mem (x := v) (lo := 0) (hi := c.vmax.toNat) (by omega)
  unfold pulseNumerator pulseWidthSpan
  dsimp only
  split <;> split <;> omega

theorem valueToPulse_mem {c : Config} (hc : c.pulseMinUs.toNat ≤ c.pulseMaxUs.toNat) (f : Fin 5) (v : Int) :
    c.pulseMinUs.toNat ≤ valueToPulse c f v ∧ valueToPulse c f v ≤ c.pulseMaxUs.toNat := by
  have hspan : 0 < pulseWidthSpan c := by unfold pulseWidthSpan; omega
  have hround : rdiv (pulseNumerator c f v * (c.pulseMaxUs.toNat - c.pulseMinUs.toNat)) (pulseWidthSpan c) ≤
      c.pulseMaxUs.toNat - c.pulseMinUs.toNat :=
    rdiv_le hspan (by rw [Nat.mul_comm]; exact Nat.mul_le_mul_left _ (pulseNumerator_le c f v))
  unfold valueToPulse
  omega

/-- A pulse fits its register. -/
theorem toNat_ofNat_valueToPulse {c : Config} (hc : c.pulseMinUs.toNat ≤ c.pulseMaxUs.toNat) (f : Fin 5)
    (v : Int) : (BitVec.ofNat 16 (valueToPulse c f v)).toNat = valueToPulse c f v := by
  have hmax := (valueToPulse_mem hc f v).2
  have hlt := c.pulseMaxUs.isLt
  rw [BitVec.toNat_ofNat, Nat.mod_eq_of_lt (by omega)]

/-! ### Every command is a run of its writes -/

theorem CommandWrites.wrreg (a imm : Nat) (s : State) : CommandWrites (.wrreg a imm) s (s.wrreg a imm) := by
  unfold State.wrreg
  split
  · exact CommandWrites.respond .refl _ _
  · next r _ =>
    split
    · exact CommandWrites.respond .refl _ _
    · split
      · exact CommandWrites.respond .refl _ _
      · exact CommandWrites.respond (.single (.register s r rfl)) _ _

theorem CommandWrites.rdreg (a : Nat) (s : State) : CommandWrites (.rdreg a) s (s.rdreg a) := by
  unfold State.rdreg
  split
  · exact CommandWrites.respond .refl _ _
  · split <;> exact CommandWrites.respond .refl _ _

theorem CommandWrites.rxwr (a b : Nat) (s : State) : CommandWrites (.rxwr a b) s (s.rxwr a b) := by
  unfold State.rxwr
  split
  · exact CommandWrites.respond .refl _ _
  · next ha => exact CommandWrites.respond (.single (.rxByte s rfl (by omega))) _ _

theorem CommandWrites.txrd (a : Nat) (s : State) : CommandWrites (.txrd a) s (s.txrd a) := by
  unfold State.txrd
  split <;> exact CommandWrites.respond .refl _ _

theorem CommandWrites.acq (s : State) : CommandWrites .acq s s.acq :=
  CommandWrites.respond (CommandWrites.foldl id _ (CommandWrites.acqChannel _ _ _) _ s) _ _

theorem CommandWrites.enc (w : Bool) (q : Nat) (s : State) : CommandWrites (.enc w q) s (s.enc w q) := by
  unfold State.enc
  split
  · have hlen := encodeFrame_length_le w q (s.reading.toList.map (·.toNat))
    rw [List.length_map, Vector.length_toList] at hlen
    exact CommandWrites.respond (.single (.txFrame s _ rfl hlen)) _ _
  · exact CommandWrites.respond .refl _ _

theorem CommandWrites.dec (s : State) : CommandWrites .dec s s.dec := by
  unfold State.dec
  split
  · exact CommandWrites.respond .refl _ _
  · next hv =>
    exact CommandWrites.respond (.single (.frame s _ _ _ (.inl rfl) (State.rxVerdict_le hv))) _ _

theorem CommandWrites.mapValue (f : Fin 5) (v : Int) (s : State)
    (hi : (∃ f, i = .mapv f) ∨ (∃ f v, i = .mapi f v) ∨ i = .apply) : CommandWrites i s (s.mapValue f v) :=
  CommandWrites.respond (.single (.pulse s f v hi)) _ _

theorem CommandWrites.mapv (f : Nat) (s : State) : CommandWrites (.mapv f) s (s.mapv f) := by
  unfold State.mapv
  split
  · exact CommandWrites.respond .refl _ _
  · split
    · exact CommandWrites.mapValue _ _ s (.inl ⟨f, rfl⟩)
    · exact CommandWrites.respond .refl _ _

theorem CommandWrites.mapi (f : Nat) (v : Int) (s : State) : CommandWrites (.mapi f v) s (s.mapi f v) := by
  unfold State.mapi
  split
  · exact CommandWrites.respond .refl _ _
  · exact CommandWrites.mapValue _ _ s (.inr (.inl ⟨f, v, rfl⟩))

/-- The bus steps leave PHASE, as the writes of a command that is no PWMINIT do. -/
theorem State.initSteps_phase (p : Byte) (s : State) : (s.initSteps p).2.phase = s.phase :=
  congrArg Prod.snd ((CommandWrites.initSteps p s).eq_of_keeps (CommandWrite.keeps_phase (i := .nop) (by simp)))

theorem CommandWrites.pwminit (hz : Nat) (s : State) : CommandWrites (.pwminit hz) s (s.pwminit hz) := by
  unfold State.pwminit
  split
  · exact CommandWrites.respond .refl _ _
  · next hphase =>
    split
    · exact CommandWrites.respond .refl _ _
    · next hz0 =>
      have hsteps := CommandWrites.initSteps (i := .pwminit hz) (prescaleByte s.cfg hz) s
      have hphase' := (s.initSteps_phase (prescaleByte s.cfg hz)).trans (not_not.1 hphase)
      dsimp only
      split
      · next hrun =>
        rw [hrun] at hsteps hphase'
        exact CommandWrites.respond (hsteps.tail (.dead _ rfl hphase')) _ _
      · next hrun =>
        rw [hrun] at hsteps hphase'
        exact CommandWrites.respond (hsteps.tail (.ready _ rfl hphase' hz0)) _ _

theorem CommandWrites.pulseFinish {r : PulseResult} (h : CommandWrites i s r.state) :
    CommandWrites i s r.finish := by
  unfold PulseResult.finish
  split <;> exact CommandWrites.respond h _ _

theorem CommandWrites.pwmsetr (f : Nat) (s : State) : CommandWrites (.pwmsetr f) s (s.pwmsetr f) := by
  unfold State.pwmsetr
  split
  · exact CommandWrites.respond .refl _ _
  · split
    · exact CommandWrites.pulseFinish (CommandWrites.setPulse (.inr (.inl ⟨f, rfl⟩)) _ _ s)
    · exact CommandWrites.respond .refl _ _

theorem CommandWrites.apply (s : State) : CommandWrites .apply s s.apply := by
  unfold State.apply
  split
  · exact CommandWrites.respond .refl _ _
  · next hasSeq q v hv =>
    have hframe : CommandWrites .apply s (s.storeFrame hasSeq q v) :=
      .single (.frame s _ _ _ (.inr rfl) (State.rxVerdict_le hv))
    have hfingers := hframe.trans (CommandWrites.applyFingers _)
    unfold ApplyProgress.finish
    split
    · exact CommandWrites.respond hfingers _ _
    · split <;> exact CommandWrites.respond hfingers _ _

/-- Everything a command does to the state is a run of its writes (10_state.md R42). -/
theorem exec_writes (h : exec i s = .next t) : CommandWrites i s t := by
  cases i <;> injection h with h <;> subst h
  case nop => exact CommandWrites.respond .refl _ _
  case rdreg a => exact .rdreg a s
  case wrreg a imm => exact .wrreg a imm s
  case rxwr a b => exact .rxwr a b s
  case txrd a => exact .txrd a s
  case tack => exact CommandWrites.respond (.single (.tackTick s rfl)) _ _
  case acq => exact .acq s
  case enc w q => exact .enc w q s
  case dec => exact .dec s
  case mapv f => exact .mapv f s
  case mapi f v => exact .mapi f v s
  case pwminit hz => exact .pwminit hz s
  case pwmset c us => exact CommandWrites.pulseFinish (CommandWrites.setPulse (.inl ⟨c, us, rfl⟩) c us s)
  case pwmsetr f => exact .pwmsetr f s
  case apply => exact .apply s

/-! ### What a step can do -/

/-- Everything a step can do, input by input (log 5, log 11). -/
inductive Stepped (s : State) : State → Prop where
  /-- No input, or a word offered while BUSY = 1 (10_state.md R38). -/
  | idle : Stepped s s
  | tick {rest : List Input} (hin : s.env.input = .tick :: rest) : Stepped s (s.takeInput rest).tickArrives
  /-- `rst`, between commands or in one (70_reset_and_hazards.md R280, R281). -/
  | reset {x : Input} {rest : List Input} (e : Env) (hin : s.env.input = x :: rest)
    (hx : x = .rst ∨ ∃ w n, x = .cmdCut w n) : Stepped s (State.resetWith s.cfg e)
  | command {w : CmdWord} {rest : List Input} {i : Instr} {t : State} (hin : s.env.input = .cmd w :: rest)
    (hdecode : decode w = .ok i) (hexec : exec i (s.accept rest) = .next t) : Stepped s t
  /-- A word that no row selects (30_encoding.md R83). -/
  | illegal {w : CmdWord} {rest : List Input} (hin : s.env.input = .cmd w :: rest) :
    Stepped s (s.accept rest).illegal

theorem runWord_cases {w : CmdWord} (h : runWord w s = .next t) :
    (∃ i, decode w = .ok i ∧ exec i s = .next t) ∨ t = s.illegal := by
  unfold runWord at h
  split at h
  · next i hi => exact .inl ⟨i, hi, h⟩
  · injection h with h
    exact .inr h.symm

theorem runCut_cases {w : CmdWord} {n : Nat} (h : runCut w n s = .next t) : ∃ evs, t = s.rst evs := by
  unfold runCut at h
  split at h
  · injection h with h
    exact ⟨_, h.symm⟩
  · cases h
  · cases h

theorem step_cases (h : step s = .next t) : Stepped s t := by
  unfold step at h
  split at h
  · injection h with h
    exact h ▸ .idle
  · next hin =>
    injection h with h
    exact h ▸ .tick hin
  · next hin =>
    injection h with h
    exact h ▸ .reset _ hin (.inl rfl)
  · next hin =>
    split at h
    · injection h with h
      exact h ▸ .idle
    · obtain ⟨i, hi, hexec⟩ | rfl := runWord_cases h
      · exact .command hin hi hexec
      · exact .illegal hin
  · next w n _ hin =>
    split at h
    · injection h with h
      exact h ▸ .idle
    · obtain ⟨evs, rfl⟩ := runCut_cases h
      exact .reset _ hin (.inr ⟨w, n, rfl⟩)

/-! ### The invariant -/

/-- The invariant without its clause on BUSY, which is 1 while a command runs (10_state.md R38). -/
def State.InvInCommand (s : State) : Prop := State.Inv { s with busy := false }

theorem State.Inv.inCommand (h : s.Inv) : s.InvInCommand := { h with idle := rfl }

theorem State.InvInCommand.inv (h : s.InvInCommand) (hs : s.busy = false) : s.Inv := { h with idle := hs }

/-- What holds of every element with a set flag still does after the store of one of which it holds. -/
theorem getElem_set_of_flag {α : Type} {P : α → Prop} {n : Nat} {flags : Vector Bool n} {a : Vector α n}
    (h : ∀ j : Fin n, flags[j] = true → P a[j]) (k : Fin n) {x : α} (hx : P x) (j : Fin n)
    (hj : (flags.set k true)[j] = true) : P (a.set k x)[j] := by
  have hj' := h j
  simp only [Fin.getElem_fin, Vector.getElem_set] at hj hj' ⊢
  split
  · exact hx
  · next hne => exact hj' (by simpa [hne] using hj)

theorem CommandWrite.keeps_inv (hwf : i.wf = true) (h : CommandWrite i s t) (hs : s.InvInCommand) :
    t.InvInCommand := by
  cases h with
  | outside => exact { hs with }
  | tackTick => exact { hs with }
  | register r => cases r <;> exact { hs with }
  | rxByte hi ha =>
    exact { hs with rxForm := Memory.write_wf hs.rxForm _ _, rxSpace := Memory.write_within hs.rxSpace ha _ }
  | select v hi hv => exact { hs with selRange := hv }
  | reading => exact { hs with }
  | txFrame bs hi hbs =>
    obtain ⟨-, -, -, -, -, -, -, -, -, htxSize⟩ := hs.config
    have htxlen : (BitVec.ofNat 8 bs.length).toNat ≤ 25 := by
      rw [BitVec.toNat_ofNat]
      omega
    exact { hs with
      txForm := Memory.writeBytes_wf hs.txForm 0 bs
      txSpace := Memory.writeBytes_within hs.txSpace bs (by omega)
      txlenRange := htxlen }
  | frame hasSeq q v hi hv => exact { hs with valRange := fun _ => hv }
  | pulse f v hi =>
    obtain ⟨-, hc, -⟩ := hs.config
    refine { hs with pulseRange := fun g hg => ?_ }
    have hnew := valueToPulse_mem hc f v
    rw [← toNat_ofNat_valueToPulse hc f v] at hnew
    exact getElem_set_of_flag (P := fun p : Word16 =>
      s.cfg.pulseMinUs.toNat ≤ p.toNat ∧ p.toNat ≤ s.cfg.pulseMaxUs.toNat) hs.pulseRange f hnew g hg
  | duty c off hi hfreq => exact { hs with dutyReady := fun _ _ => hs.freqReady.1 hfreq }
  | @ready hz hi hphase hz0 =>
    subst hi
    have hlt : hz < 65536 := of_decide_eq_true hwf
    have hfreq : BitVec.ofNat 16 hz ≠ 0 := by
      intro h0
      rw [← BitVec.toNat_inj, BitVec.toNat_ofNat, Nat.mod_eq_of_lt hlt] at h0
      exact hz0 h0
    exact { hs with freqReady := iff_of_true hfreq rfl, dutyReady := fun _ _ => rfl }
  | dead hi hphase =>
    have hready : ¬ s.phase = .ready := by simp [hphase]
    exact { hs with
      freqReady := iff_of_false (mt hs.freqReady.1 hready) (by simp)
      dutyReady := fun c hc => absurd (hs.dutyReady c hc) hready }

theorem State.resetWith_inv {c : Config} (hc : c.Valid) (e : Env) : (State.resetWith c e).Inv where
  config := hc
  rxForm := rfl
  rxSpace := rfl
  txForm := rfl
  txSpace := rfl
  freqReady := by simp [State.resetWith]
  valRange := by simp [State.resetWith]
  pulseRange := by simp [State.resetWith]
  dutyReady := by simp [State.resetWith]
  txlenRange := by simp [State.resetWith]
  selRange := by simp [State.resetWith]
  idle := rfl

theorem State.illegal_inv (hs : s.InvInCommand) : s.illegal.Inv :=
  ((CommandWrites.respond .refl _ _).invariant (CommandWrite.keeps_inv (i := .nop) rfl) hs).inv rfl

theorem exec_inv (hwf : i.wf = true) (h : exec i s = .next t) (hs : s.InvInCommand) : t.Inv := by
  obtain ⟨t', hexec, hans⟩ := exec_answers i s
  obtain rfl : t' = t := by rw [hexec] at h; injection h
  exact ((exec_writes h).invariant (CommandWrite.keeps_inv hwf) hs).inv hans.events.1

/-- Settles O13: each write of a command keeps the invariant but for BUSY, which falls with the response; the
other inputs write TICK alone or reset. -/
theorem stepKeepsInvariant : Obligations.StepKeepsInvariant := by
  intro s t hs hstep
  have haccept : ∀ rest, (s.accept rest).InvInCommand := fun _ => { hs.inCommand with }
  cases step_cases hstep with
  | idle => exact hs
  | tick => exact { hs with }
  | reset e => exact State.resetWith_inv hs.config e
  | command hin hdecode hexec => exact exec_inv (decode_wf hdecode) hexec (haccept _)
  | illegal => exact State.illegal_inv (haccept _)

/-- A bound that is raised to the lower one where it is below it is at least the lower one. -/
theorem toNat_le_ite (a b : Word16) : a.toNat ≤ (if a.toNat ≤ b.toNat then b else a).toNat := by
  split <;> omega

theorem Config.machine_valid : Config.machine.Valid :=
  ⟨by decide, toNat_le_ite _ _, toNat_le_ite _ _, Nat.le_add_right _ _,
    Nat.add_le_add_left (Nat.le_of_lt_succ (Nat.mod_lt _ (by decide))) 64,
    by decide, by decide, by decide, by decide, by decide⟩

/-- Settles O12: the parameters of the machine meet their constraints, whatever the free values are. -/
theorem resetMeetsInvariant : Obligations.ResetMeetsInvariant := State.resetWith_inv Config.machine_valid _

/-! ### PHASE and the valid flags -/

/-- Once PHASE has left UNINIT, a command that writes PHASE or FREQ does not run (44_pwm.md R208). -/
theorem CommandWrite.keeps_phase_of_left (h : CommandWrite i s t) (hs : s.phase ≠ .uninit) :
    (t.freq, t.phase) = (s.freq, s.phase) := by
  cases h with
  | register r hi => cases r <;> rfl
  | ready hi hphase => exact absurd hphase hs
  | dead hi hphase => exact absurd hphase hs
  | _ => rfl

theorem CommandWrites.keeps_phase_of_left (h : CommandWrites i s t) (hs : s.phase ≠ .uninit) :
    (t.freq, t.phase) = (s.freq, s.phase) :=
  h.invariant (P := fun u => (u.freq, u.phase) = (s.freq, s.phase))
    (fun hw hu => (hw.keeps_phase_of_left ((Prod.mk.inj hu).2 ▸ hs)).trans hu) rfl

/-- A step that is no reset makes the writes of the command it runs, or such as NOP may make. -/
theorem step_writes (h : step s = .next t) (hrst : s.env.input.head? ≠ some .rst)
    (hcut : ∀ w n, s.env.input.head? ≠ some (.cmdCut w n)) :
    ∃ i, CommandWrites i s t ∧ (i = .nop ∨ ∃ w, s.env.input.head? = some (.cmd w) ∧ decode w = .ok i) := by
  have haccept : ∀ i rest, CommandWrites i s (s.accept rest) := fun _ _ => .single (.outside s true _ id)
  cases step_cases h with
  | idle => exact ⟨.nop, .refl, .inl rfl⟩
  | tick => exact ⟨.nop, .single (.outside s s.busy _ fun _ => rfl), .inl rfl⟩
  | reset e hin hx =>
    rw [hin, List.head?_cons] at hrst hcut
    obtain rfl | ⟨w, n, rfl⟩ := hx
    · exact absurd rfl hrst
    · exact absurd rfl (hcut w n)
  | @command w rest i _ hin hdecode hexec =>
    exact ⟨i, (haccept i rest).trans (exec_writes hexec), .inr ⟨w, by rw [hin, List.head?_cons], hdecode⟩⟩
  | illegal => exact ⟨.nop, CommandWrites.respond (haccept _ _) _ _, .inl rfl⟩

/-- Settles O54: of the writes of a command only those of PWMINIT reach PHASE and FREQ, and only in UNINIT. -/
theorem phaseLeftOnlyByReset : Obligations.PhaseLeftOnlyByReset := by
  intro s t hstep hrst hcut
  obtain ⟨i, hwrites, hi⟩ := step_writes hstep hrst hcut
  have hother : (∀ hz, i ≠ .pwminit hz) → t.phase = s.phase := fun hne =>
    congrArg Prod.snd (hwrites.eq_of_keeps (CommandWrite.keeps_phase hne))
  refine ⟨fun hphase => ?_, fun hphase => ?_⟩
  · obtain ⟨hfreq', hphase'⟩ := Prod.mk.inj (hwrites.keeps_phase_of_left hphase)
    exact ⟨hphase', hfreq'⟩
  · obtain rfl | ⟨w, hin, hdecode⟩ := hi
    · exact absurd (hother (by simp)) hphase
    · obtain ⟨hz, rfl⟩ : ∃ hz, i = .pwminit hz := by
        by_contra hne
        exact hphase (hother (not_exists.1 hne))
      exact ⟨w, hz, hin, hdecode⟩

/-- Every valid flag that is set in `s` is set in `t` (10_state.md R36). -/
structure FlagsKept (s t : State) : Prop where
  readv : ∀ i : Fin 5, s.readv[i] = true → t.readv[i] = true
  valv : s.valv = true → t.valv = true
  pulsev : ∀ f : Fin 5, s.pulsev[f] = true → t.pulsev[f] = true
  dutyv : ∀ c : Fin 16, s.dutyv[c] = true → t.dutyv[c] = true

theorem FlagsKept.refl (s : State) : FlagsKept s s := ⟨fun _ => id, id, fun _ => id, fun _ => id⟩

theorem FlagsKept.trans (h : FlagsKept s t) (h' : FlagsKept t u) : FlagsKept s u where
  readv i hi := h'.readv i (h.readv i hi)
  valv hv := h'.valv (h.valv hv)
  pulsev f hf := h'.pulsev f (h.pulsev f hf)
  dutyv c hc := h'.dutyv c (h.dutyv c hc)

/-- Setting one flag clears none. -/
theorem getElem_set_true {n : Nat} (v : Vector Bool n) (i j : Fin n) (h : v[j] = true) :
    (v.set i true)[j] = true := by
  simp only [Fin.getElem_fin] at h ⊢
  rw [Vector.getElem_set]
  split
  · rfl
  · exact h

theorem FlagsKept.storeReading (s : State) (ch : Fin 5) (v : Byte) : FlagsKept s (s.storeReading ch v) :=
  { FlagsKept.refl s with readv := getElem_set_true s.readv ch }

theorem CommandWrite.flagsKept (h : CommandWrite i s t) : FlagsKept s t := by
  cases h with
  | register r =>
    cases r with
    | reading ch => exact .storeReading s ch _
    | _ => exact { FlagsKept.refl s with }
  | reading ch v => exact .storeReading s ch v
  | frame => exact { FlagsKept.refl s with valv := fun _ => rfl }
  | pulse f => exact { FlagsKept.refl s with pulsev := getElem_set_true s.pulsev f }
  | duty c => exact { FlagsKept.refl s with dutyv := getElem_set_true s.dutyv c }
  | _ => exact { FlagsKept.refl s with }

/-- Settles O59: no write of a command clears a valid flag. -/
theorem validFlagsStaySet : Obligations.ValidFlagsStaySet := by
  intro s t hstep hrst hcut
  obtain ⟨i, hwrites, -⟩ := step_writes hstep hrst hcut
  obtain ⟨hreadv, hvalv, hpulsev, hdutyv⟩ :=
    hwrites.invariant (P := FlagsKept s) (fun hw hs => hs.trans hw.flagsKept) (.refl s)
  exact ⟨hreadv, hvalv, hpulsev, hdutyv⟩

/-- Settles O58, a row of the access matrix after the other. -/
theorem commandsKeepWhatTheyDoNotWrite : Obligations.CommandsKeepWhatTheyDoNotWrite := by
  intro i s t hexec
  have hwrites := exec_writes hexec
  refine ⟨hwrites.eq_of_keeps CommandWrite.keeps_cfg, fun hw ha => ?_, fun hd ha => ?_, fun hv hm ha => ?_,
    fun hp hr ha => ?_, fun hw => ?_, fun ha => ?_, fun hp => ?_, fun ht => ?_, fun he => ?_, fun hx a => ?_⟩
  · exact Prod.mk.inj (hwrites.eq_of_keeps (CommandWrite.keeps_reading hw ha))
  · simpa using hwrites.eq_of_keeps (CommandWrite.keeps_frame hd ha)
  · exact Prod.mk.inj (hwrites.eq_of_keeps (CommandWrite.keeps_pulse hv hm ha))
  · exact Prod.mk.inj (hwrites.eq_of_keeps (CommandWrite.keeps_duty hp hr ha))
  · simpa using hwrites.eq_of_keeps (CommandWrite.keeps_settings hw)
  · exact hwrites.eq_of_keeps (CommandWrite.keeps_sel ha)
  · exact Prod.mk.inj (hwrites.eq_of_keeps (CommandWrite.keeps_phase hp))
  · exact hwrites.invariant (CommandWrite.keeps_tick ht)
  · have hkeep : (t.txlen, t.tx) = (s.txlen, s.tx) := hwrites.eq_of_keeps (CommandWrite.keeps_tx he)
    obtain ⟨htxlen, htx⟩ := Prod.mk.inj hkeep
    exact ⟨htxlen, fun a => by rw [htx]⟩
  · rw [hwrites.eq_of_keeps (CommandWrite.keeps_rx hx)]

/-! ### The step and the reset state -/

/-- Settles O6: an offered word that decodes runs its command with the input taken and BUSY risen. -/
theorem stepRunsDecodedCommand : Obligations.StepRunsDecodedCommand := by
  intro s w rest i hbusy hin hdecode
  have hword : runWord w (s.accept rest) = exec i (s.accept rest) := by rw [runWord, hdecode]
  have hstep : step s = runWord w (s.accept rest) := by simp [step, hin, hbusy]
  exact hstep.trans hword

/-- Settles O7: the two branches of a step that take no input. -/
theorem stepWaitsWithoutCommand : Obligations.StepWaitsWithoutCommand :=
  ⟨fun s hin => by simp [step, hin], fun s w rest hbusy hin => by simp [step, hin, hbusy]⟩

theorem State.events_tickArrives (s : State) : s.tickArrives.events = s.events := by
  simp [State.events, State.tickArrives, Event.isTick]

/-- Settles O8: a tick writes TICK and the trace, and is no event of a command. -/
theorem tickSetsTickOnly : Obligations.TickSetsTickOnly := fun s rest hin =>
  ⟨(s.takeInput rest).tickArrives, by rw [step, hin], rfl, rfl, rfl, (s.takeInput rest).events_tickArrives, rfl⟩

/-- Settles O9: the reset state is written out with these values. -/
theorem resetValues : Obligations.ResetValues := by
  refine ⟨fun c e => ?_, _, _, rfl⟩
  have hread : ∀ a, Memory.read [] a = 0 := fun _ => rfl
  simp [State.resetWith, hread]

/-! ### Contents without a value: what agrees and what is stored (log 4) -/

/-- What is computed without the four contents is the same in both states. -/
theorem SameVouched.congr {α : Type} (h : SameVouched s u) (f : State → α)
    (hf : f { u with reading := s.reading, val := s.val, pulse := s.pulse, duty := s.duty } = f u) : f u = f s :=
  hf.symm.trans (congrArg f h.rest)

theorem SameVouched.cfg (h : SameVouched s u) : u.cfg = s.cfg := h.congr State.cfg rfl
theorem SameVouched.env (h : SameVouched s u) : u.env = s.env := h.congr State.env rfl
theorem SameVouched.freq (h : SameVouched s u) : u.freq = s.freq := h.congr State.freq rfl
theorem SameVouched.phase (h : SameVouched s u) : u.phase = s.phase := h.congr State.phase rfl

theorem SameVouched.respond (h : SameVouched s u) (st : Status) (d : Word16) :
    SameVouched (s.respond st d) (u.respond st d) :=
  { h with rest := congrArg (State.respond st d) h.rest }

theorem SameVouched.waitCycles (h : SameVouched s u) (n : Nat) :
    SameVouched (s.waitCycles n) (u.waitCycles n) :=
  { h with rest := congrArg (State.waitCycles n) h.rest }

/-- Elements that agree where a flag is set still do after one store of the same element with its flag. -/
theorem getElem_set_agree {α : Type} {n : Nat} {flags : Vector Bool n} {a b : Vector α n}
    (h : ∀ j : Fin n, flags[j] = true → a[j] = b[j]) (k : Fin n) (x : α) (j : Fin n)
    (hj : (flags.set k true)[j] = true) : (a.set k x)[j] = (b.set k x)[j] := by
  have hj' := h j
  simp only [Fin.getElem_fin, Vector.getElem_set] at hj hj' ⊢
  split
  · rfl
  · next hne => exact hj' (by simpa [hne] using hj)

theorem SameVouched.storeReading (h : SameVouched s u) (i : Fin 5) (v : Byte) :
    SameVouched (s.storeReading i v) (u.storeReading i v) :=
  { h with rest := congrArg (State.storeReading i v) h.rest, reading := getElem_set_agree h.reading i v }

theorem SameVouched.storePulse (h : SameVouched s u) (f : Fin 5) (p : Word16) :
    SameVouched (s.storePulse f p) (u.storePulse f p) :=
  { h with rest := congrArg (State.storePulse f p) h.rest, pulse := getElem_set_agree h.pulse f p }

theorem SameVouched.storeDuty (h : SameVouched s u) (c : Fin 16) (off : BitVec 12) :
    SameVouched (s.storeDuty c off) (u.storeDuty c off) :=
  { h with rest := congrArg (State.storeDuty c off) h.rest, duty := getElem_set_agree h.duty c off }

theorem SameVouched.storeFrame (h : SameVouched s u) (hasSeq : Bool) (q : Byte) (v : Vector Byte 5) :
    SameVouched (s.storeFrame hasSeq q v) (u.storeFrame hasSeq q v) :=
  { h with rest := congrArg (State.storeFrame hasSeq q v) h.rest, val := fun _ => rfl }

theorem SameVouched.writeReg (h : SameVouched s u) (r : Reg) (imm : Nat) :
    SameVouched (s.writeReg r imm) (u.writeReg r imm) := by
  cases r with
  | reading i => exact h.storeReading i _
  | settle => exact { h with rest := congrArg (State.writeReg .settle imm) h.rest }
  | rawMin => exact { h with rest := congrArg (State.writeReg .rawMin imm) h.rest }
  | rawMax => exact { h with rest := congrArg (State.writeReg .rawMax imm) h.rest }
  | rxlen => exact { h with rest := congrArg (State.writeReg .rxlen imm) h.rest }
  | _ => exact h

theorem SameVouched.regValid (h : SameVouched s u) (r : Reg) : u.regValid r = s.regValid r :=
  h.congr (fun x => x.regValid r) rfl

/-- A register whose valid flag is set, or that is always valid, reads alike. -/
theorem SameVouched.regValue (h : SameVouched s u) {r : Reg} (hr : s.regValid r = true) :
    u.regValue r = s.regValue r := by
  cases r with
  | reading i => exact congrArg (BitVec.setWidth 16) (h.reading i hr).symm
  | val f => exact congrArg (fun v : Vector Byte 5 => v[f].setWidth 16) (h.val hr).symm
  | pulse f => exact (h.pulse f hr).symm
  | duty c => exact congrArg (BitVec.setWidth 16) (h.duty c hr).symm
  | _ => exact h.congr (fun x => x.regValue _) rfl

/-! ### The operations on two such states -/

theorem SameVouched.acqChannel (h : SameVouched s u) (settle lo hi : Nat) (ch : Fin 5) :
    SameVouched (s.acqChannel settle lo hi ch) (u.acqChannel settle lo hi ch) := by
  have hsample : (((u.select (BitVec.ofNat 3 ch.val)).waitCycles settle).sample).1 =
      (((s.select (BitVec.ofNat 3 ch.val)).waitCycles settle).sample).1 :=
    h.congr (fun x => ((x.select (BitVec.ofNat 3 ch.val)).waitCycles settle).sample.1) rfl
  have hstate : SameVouched ((s.select (BitVec.ofNat 3 ch.val)).waitCycles settle).sample.2
      ((u.select (BitVec.ofNat 3 ch.val)).waitCycles settle).sample.2 :=
    { h with rest := congrArg (fun x : State =>
        ((x.select (BitVec.ofNat 3 ch.val)).waitCycles settle).sample.2) h.rest }
  unfold State.acqChannel
  dsimp only
  rw [hsample, hstate.cfg]
  exact hstate.storeReading ch _

theorem SameVouched.acqChannels (h : SameVouched s u) (settle lo hi : Nat) (chs : List (Fin 5)) :
    SameVouched (chs.foldl (State.acqChannel settle lo hi) s) (chs.foldl (State.acqChannel settle lo hi) u) := by
  induction chs generalizing s u with
  | nil => exact h
  | cons ch chs ih => exact ih (h.acqChannel settle lo hi ch)

theorem SameVouched.busRead (h : SameVouched s u) (reg : Byte) :
    ∃ answer s' u', s.busRead reg = (answer, s') ∧ u.busRead reg = (answer, u') ∧ SameVouched s' u' :=
  ⟨(s.busRead reg).1, _, (u.busRead reg).2, rfl,
    Prod.ext (h.congr (fun x => (x.busRead reg).1) rfl) rfl,
    { h with rest := congrArg (fun x : State => (x.busRead reg).2) h.rest }⟩

theorem SameVouched.busWrite (h : SameVouched s u) (reg : Byte) (bs : List Byte) :
    ∃ ok s' u', s.busWrite reg bs = (ok, s') ∧ u.busWrite reg bs = (ok, u') ∧ SameVouched s' u' :=
  ⟨(s.busWrite reg bs).1, _, (u.busWrite reg bs).2, rfl,
    Prod.ext (h.congr (fun x => (x.busWrite reg bs).1) rfl) rfl,
    { h with rest := congrArg (fun x : State => (x.busWrite reg bs).2) h.rest }⟩

/-- The bus steps of PWMINIT end alike, whichever of them fails (44_pwm.md R204, R207). -/
theorem SameVouched.initSteps (h : SameVouched s u) (p : Byte) :
    ∃ failed s' u', s.initSteps p = (failed, s') ∧ u.initSteps p = (failed, u') ∧ SameVouched s' u' := by
  obtain ⟨answer, s1, u1, hs1, hu1, h1⟩ := h.busRead s.cfg.regMode1
  unfold State.initSteps
  rw [h.cfg, hs1, hu1]
  cases answer with
  | none => exact ⟨_, s1, u1, rfl, rfl, h1⟩
  | some old =>
    dsimp only
    obtain ⟨ok2, s2, u2, hs2, hu2, h2⟩ := h1.busWrite s1.cfg.regMode1 [mode1AsleepByte s1.cfg old]
    rw [h1.cfg, hs2, hu2]
    cases ok2 with
    | false => exact ⟨_, s2, u2, rfl, rfl, h2⟩
    | true =>
      dsimp only
      obtain ⟨ok3, s3, u3, hs3, hu3, h3⟩ := h2.busWrite s2.cfg.regPrescale [p]
      rw [h2.cfg, hs3, hu3]
      cases ok3 with
      | false => exact ⟨_, s3, u3, rfl, rfl, h3⟩
      | true =>
        dsimp only
        obtain ⟨ok4, s4, u4, hs4, hu4, h4⟩ := h3.busWrite s3.cfg.regMode1 [mode1AwakeByte s3.cfg old]
        rw [h3.cfg, hs4, hu4]
        cases ok4 with
        | false => exact ⟨_, s4, u4, rfl, rfl, h4⟩
        | true =>
          dsimp only
          obtain ⟨ok5, s5, u5, hs5, hu5, h5⟩ := (h4.waitCycles s4.cfg.oscStabCycles).busWrite
            s4.cfg.regMode1 [mode1RunByte s4.cfg old]
          rw [h4.cfg, hs5, hu5]
          cases ok5 with
          | false => exact ⟨_, s5, u5, rfl, rfl, h5⟩
          | true => exact ⟨_, s5, u5, rfl, rfl, h5⟩

theorem SameVouched.setPulse (h : SameVouched s u) (c us : Nat) :
    ∃ st off s' u', s.setPulse c us = ⟨st, off, s'⟩ ∧ u.setPulse c us = ⟨st, off, u'⟩ ∧ SameVouched s' u' := by
  unfold State.setPulse
  rw [h.freq, h.cfg]
  split
  · exact ⟨_, _, s, u, rfl, rfl, h⟩
  · next k _ =>
    split
    · exact ⟨_, _, s, u, rfl, rfl, h⟩
    · obtain ⟨ok, s', u', hs, hu, h'⟩ := h.busWrite (channelReg s.cfg k) (burstBytes (s.offOf us))
      dsimp only
      rw [hs, hu]
      cases ok with
      | false => exact ⟨_, _, s', u', rfl, rfl, h'⟩
      | true => exact ⟨_, _, _, _, rfl, rfl, h'.storeDuty k _⟩

/-- Stage 2 of APPLY at the same place on two such states; VAL is valid by then, so it is the same. -/
structure ApplyProgress.Alike (a b : ApplyProgress) : Prop where
  fail : b.fail = a.fail
  skip : b.skip = a.skip
  state : SameVouched a.state b.state
  valv : a.state.valv = true

theorem ApplyProgress.Alike.finger {a b : ApplyProgress} (h : a.Alike b) (f : Fin 5) :
    (a.finger f).Alike (b.finger f) := by
  have hvalv : (a.finger f).state.valv = true :=
    ((CommandWrites.finger a f).invariant (P := FlagsKept a.state) (fun hw hs => hs.trans hw.flagsKept)
      (.refl _)).valv h.valv
  have hval := h.state.val h.valv
  obtain ⟨st, off, s', u', hs, hu, h'⟩ := (h.state.storePulse f
    (BitVec.ofNat 16 (valueToPulse a.state.cfg f a.state.val[f].toNat))).setPulse
    a.state.cfg.servoCh[f].val (valueToPulse a.state.cfg f a.state.val[f].toNat)
  refine ⟨?_, ?_, ?_, hvalv⟩ <;> simp only [ApplyProgress.finger, h.state.cfg, ← hval, hs, hu, h.fail, h.skip]
  exact h'

theorem ApplyProgress.Alike.fingers {a b : ApplyProgress} (h : a.Alike b) (fs : List (Fin 5)) :
    (fs.foldl ApplyProgress.finger a).Alike (fs.foldl ApplyProgress.finger b) := by
  induction fs generalizing a b with
  | nil => exact h
  | cons f fs ih => exact ih (h.finger f)

/-! ### Every command on two such states -/

theorem SameVouched.rdreg (h : SameVouched s u) (a : Nat) : SameVouched (s.rdreg a) (u.rdreg a) := by
  unfold State.rdreg
  split
  · exact h.respond _ _
  · next r _ =>
    rw [h.regValid]
    split
    · next hr =>
      rw [h.regValue hr]
      exact h.respond _ _
    · exact h.respond _ _

theorem SameVouched.wrreg (h : SameVouched s u) (a imm : Nat) : SameVouched (s.wrreg a imm) (u.wrreg a imm) := by
  unfold State.wrreg
  split
  · exact h.respond _ _
  · next r _ =>
    split
    · exact h.respond _ _
    · split
      · exact h.respond _ _
      · exact (h.writeReg r imm).respond _ _

theorem SameVouched.rxwr (h : SameVouched s u) (a b : Nat) : SameVouched (s.rxwr a b) (u.rxwr a b) := by
  have hwrite : SameVouched { s with rx := s.rx.write a (BitVec.ofNat 8 b) }
      { u with rx := u.rx.write a (BitVec.ofNat 8 b) } :=
    { h with rest := congrArg (fun x : State => { x with rx := x.rx.write a (BitVec.ofNat 8 b) }) h.rest }
  have hspace : u.cfg.frameMax = s.cfg.frameMax := h.congr (fun x => x.cfg.frameMax) rfl
  unfold State.rxwr
  rw [hspace]
  split
  · exact h.respond _ _
  · exact hwrite.respond .ok 0

theorem SameVouched.txrd (h : SameVouched s u) (a : Nat) : SameVouched (s.txrd a) (u.txrd a) := by
  have htx : u.tx = s.tx := h.congr State.tx rfl
  unfold State.txrd
  rw [h.cfg, htx]
  split <;> exact h.respond _ _

theorem SameVouched.tack (h : SameVouched s u) : SameVouched s.tack u.tack :=
  { h with rest := congrArg State.tack h.rest }

theorem SameVouched.acq (h : SameVouched s u) : SameVouched s.acq u.acq := by
  have hsettle : u.settle = s.settle := h.congr State.settle rfl
  have hmin : u.rawMin = s.rawMin := h.congr State.rawMin rfl
  have hmax : u.rawMax = s.rawMax := h.congr State.rawMax rfl
  unfold State.acq
  rw [hsettle, hmin, hmax]
  exact (h.acqChannels _ _ _ _).respond _ _

/-- ENC reads READING only when all five are valid (43_frame.md R173). -/
theorem SameVouched.enc (h : SameVouched s u) (w : Bool) (q : Nat) : SameVouched (s.enc w q) (u.enc w q) := by
  have hall : u.allReadv = s.allReadv := h.congr State.allReadv rfl
  unfold State.enc
  rw [hall]
  split
  · next hr =>
    have hreading : s.reading = u.reading := by
      ext1 i hi
      exact h.reading ⟨i, hi⟩ (State.allReadv_eq_true.1 hr ⟨i, hi⟩)
    have hwrite : ∀ bs : List Byte, SameVouched
        { s with tx := s.tx.writeBytes 0 bs, txlen := BitVec.ofNat 8 bs.length }
        { u with tx := u.tx.writeBytes 0 bs, txlen := BitVec.ofNat 8 bs.length } := fun bs =>
      { h with rest := congrArg (fun x : State =>
          { x with tx := x.tx.writeBytes 0 bs, txlen := BitVec.ofNat 8 bs.length }) h.rest }
    have hframe := congrArg (fun r : Vector Byte 5 => encodeFrame w q (r.toList.map (·.toNat))) hreading
    dsimp only at hframe ⊢
    rw [← hframe]
    exact (hwrite _).respond .ok _
  · exact h.respond _ _

theorem SameVouched.rxVerdict (h : SameVouched s u) : u.rxVerdict = s.rxVerdict :=
  h.congr State.rxVerdict rfl

theorem SameVouched.dec (h : SameVouched s u) : SameVouched s.dec u.dec := by
  unfold State.dec
  rw [h.rxVerdict]
  split
  · exact h.respond _ _
  · exact (h.storeFrame _ _ _).respond _ _

theorem SameVouched.mapValue (h : SameVouched s u) (f : Fin 5) (v : Int) :
    SameVouched (s.mapValue f v) (u.mapValue f v) := by
  unfold State.mapValue
  rw [h.cfg]
  exact (h.storePulse f _).respond _ _

theorem SameVouched.mapv (h : SameVouched s u) (f : Nat) : SameVouched (s.mapv f) (u.mapv f) := by
  unfold State.mapv
  rw [h.congr State.valv rfl]
  split
  · exact h.respond _ _
  · split
    · next hv =>
      rw [← h.val hv]
      exact h.mapValue _ _
    · exact h.respond _ _

theorem SameVouched.mapi (h : SameVouched s u) (f : Nat) (v : Int) : SameVouched (s.mapi f v) (u.mapi f v) := by
  unfold State.mapi
  split
  · exact h.respond _ _
  · exact h.mapValue _ _

theorem SameVouched.pwminit (h : SameVouched s u) (hz : Nat) : SameVouched (s.pwminit hz) (u.pwminit hz) := by
  unfold State.pwminit
  rw [h.phase, h.cfg]
  split
  · exact h.respond _ _
  · split
    · exact h.respond _ _
    · obtain ⟨failed, s', u', hs, hu, h'⟩ := h.initSteps (prescaleByte s.cfg hz)
      have hdead : SameVouched { s' with phase := .dead } { u' with phase := .dead } :=
        { h' with rest := congrArg (fun x : State => { x with phase := .dead }) h'.rest }
      have hready : ∀ f : Word16,
          SameVouched { s' with freq := f, phase := .ready } { u' with freq := f, phase := .ready } := fun f =>
        { h' with rest := congrArg (fun x : State => { x with freq := f, phase := .ready }) h'.rest }
      dsimp only
      rw [hs, hu]
      cases failed with
      | some step => exact hdead.respond .busFail _
      | none => exact (hready _).respond .ok _

theorem SameVouched.pulseFinish (h : SameVouched s u) (st : Status) (off : BitVec 12) :
    SameVouched (PulseResult.finish ⟨st, off, s⟩) (PulseResult.finish ⟨st, off, u⟩) := by
  unfold PulseResult.finish
  split <;> exact h.respond _ _

theorem SameVouched.pwmset (h : SameVouched s u) (c us : Nat) : SameVouched (s.pwmset c us) (u.pwmset c us) := by
  obtain ⟨st, off, s', u', hs, hu, h'⟩ := h.setPulse c us
  rw [State.pwmset, State.pwmset, hs, hu]
  exact h'.pulseFinish st off

theorem SameVouched.pwmsetr (h : SameVouched s u) (f : Nat) : SameVouched (s.pwmsetr f) (u.pwmsetr f) := by
  unfold State.pwmsetr
  rw [h.congr State.pulsev rfl, h.cfg]
  split
  · exact h.respond _ _
  · next k _ =>
    split
    · next hk =>
      rw [← h.pulse k hk]
      exact h.pwmset _ _
    · exact h.respond _ _

theorem SameVouched.apply (h : SameVouched s u) : SameVouched s.apply u.apply := by
  unfold State.apply
  rw [h.rxVerdict]
  split
  · exact h.respond _ _
  · next hasSeq q v _ =>
    have hstart : ApplyProgress.Alike ⟨0, false, s.storeFrame hasSeq q v⟩ ⟨0, false, u.storeFrame hasSeq q v⟩ :=
      ⟨rfl, rfl, h.storeFrame hasSeq q v, rfl⟩
    obtain ⟨hfail, hskip, hstate, -⟩ := hstart.fingers [0, 1, 2, 3, 4]
    unfold State.applyFingers ApplyProgress.finish
    rw [hfail, hskip]
    split
    · exact hstate.respond _ _
    · split <;> exact hstate.respond _ _

/-- Each command, on two states that differ only in what no flag vouches for, leaves two such states. -/
theorem exec_sameVouched (h : SameVouched s u) (hexec : exec i s = .next t) :
    ∃ u', exec i u = .next u' ∧ SameVouched t u' := by
  cases i <;> injection hexec with hexec <;> subst hexec
  case nop => exact ⟨_, rfl, h.respond _ _⟩
  case rdreg a => exact ⟨_, rfl, h.rdreg a⟩
  case wrreg a imm => exact ⟨_, rfl, h.wrreg a imm⟩
  case rxwr a b => exact ⟨_, rfl, h.rxwr a b⟩
  case txrd a => exact ⟨_, rfl, h.txrd a⟩
  case tack => exact ⟨_, rfl, h.tack⟩
  case acq => exact ⟨_, rfl, h.acq⟩
  case enc w q => exact ⟨_, rfl, h.enc w q⟩
  case dec => exact ⟨_, rfl, h.dec⟩
  case mapv f => exact ⟨_, rfl, h.mapv f⟩
  case mapi f v => exact ⟨_, rfl, h.mapi f v⟩
  case pwminit hz => exact ⟨_, rfl, h.pwminit hz⟩
  case pwmset c us => exact ⟨_, rfl, h.pwmset c us⟩
  case pwmsetr f => exact ⟨_, rfl, h.pwmsetr f⟩
  case apply => exact ⟨_, rfl, h.apply⟩

/-- Settles O60: a command reads READING, VAL, PULSE and DUTY only where their flags are set. -/
theorem unwrittenContentsUnobservable : Obligations.UnwrittenContentsUnobservable := by
  intro i s u t h hexec
  obtain ⟨u', hexec', h'⟩ := exec_sameVouched h hexec
  exact ⟨u', hexec', h', h'.env⟩

end Sys2Proof.Machine
end

section
/-! PROOFS. The statement of 20_memory.md: with enough settling the converter answers for the selected input
alone (R67), so no reading of ACQ depends on another channel (R135; 70_reset_and_hazards.md R290). -/

namespace Sys2Proof.Machine

section
variable {s t : State} {settle lo hi : Nat}

/-! ### One channel of ACQ -/

/-- A settled converter answers what the selected input carries (R67). -/
theorem Env.sampleValue_of_settled {e : Env} {settleMin : Nat} {c : Conversion} (sel : BitVec 3)
    (h : settleMin ≤ e.settledFor) (hc : e.conversions[0]? = some c) :
    e.sampleValue settleMin sel = c.inputs[sel.toFin] := by
  obtain ⟨cs, hcs⟩ := List.head?_eq_some_iff.mp (List.head?_eq_getElem? ▸ hc)
  simp [Env.sampleValue, hcs, h]

/-- A channel uses up one conversion. -/
@[simp] theorem State.acqChannel_conversions (ch : Fin 5) :
    (s.acqChannel settle lo hi ch).env.conversions = s.env.conversions.tail := rfl

/-- A channel leaves the other readings. -/
theorem State.acqChannel_reading_of_ne {ch k : Fin 5} (h : ch ≠ k) :
    (s.acqChannel settle lo hi ch).reading[k] = s.reading[k] :=
  Vector.getElem_set_ne ch.isLt k.isLt (Fin.val_ne_of_ne h)

/-- However long the lines stood still before, after `Wait(SETTLE)` the mux has settled: the converter answers
what the channel's own input carries (R67, R133). -/
theorem State.sample_select_waitCycles {c : Conversion} (ch : Fin 5) (hs : s.cfg.tSettleMin ≤ settle)
    (hc : s.env.conversions[0]? = some c) :
    ((s.select (BitVec.ofNat 3 ch.val)).waitCycles settle).sample.1 = c.inputs[ch.val] := by
  have hsel : (BitVec.ofNat 3 ch.val).toFin.val = ch.val := Nat.mod_eq_of_lt (by omega)
  have hsettled : s.cfg.tSettleMin ≤ ((s.select (BitVec.ofNat 3 ch.val)).waitCycles settle).env.settledFor :=
    Nat.le_add_left_of_le hs
  calc ((s.select (BitVec.ofNat 3 ch.val)).waitCycles settle).sample.1
      = c.inputs[(BitVec.ofNat 3 ch.val).toFin] := Env.sampleValue_of_settled _ hsettled hc
    _ = c.inputs[ch.val] := by simp only [Fin.getElem_fin, hsel]

/-- A channel stores the mapped value of what its own input carries. -/
theorem State.acqChannel_reading_self {c : Conversion} (ch : Fin 5) (hs : s.cfg.tSettleMin ≤ settle)
    (hc : s.env.conversions[0]? = some c) :
    (s.acqChannel settle lo hi ch).reading[ch] =
      BitVec.ofNat 8 (mapSensor s.cfg c.inputs[ch.val].toNat lo hi) := by
  rw [← State.sample_select_waitCycles ch hs hc]
  exact Vector.getElem_set_self ch.isLt

/-! ### The loop over the channels -/

/-- A channel the loop does not visit keeps its reading. -/
theorem State.acqChannels_reading_of_notMem {k : Fin 5} {chs : List (Fin 5)} (h : k ∉ chs) :
    (chs.foldl (State.acqChannel settle lo hi) s).reading[k] = s.reading[k] := by
  induction chs generalizing s with
  | nil => rfl
  | cons ch chs ih =>
    obtain ⟨hne, hmem⟩ := List.ne_and_not_mem_of_not_mem_cons h
    exact (ih hmem).trans (s.acqChannel_reading_of_ne (Ne.symm hne))

/-- The channel visited n-th, and only once, stores what its input carries in the n-th conversion. -/
theorem State.acqChannels_reading {k : Fin 5} {c : Conversion} {chs : List (Fin 5)} {n : Nat}
    (hs : s.cfg.tSettleMin ≤ settle) (hnodup : chs.Nodup) (hk : chs[n]? = some k)
    (hc : s.env.conversions[n]? = some c) :
    (chs.foldl (State.acqChannel settle lo hi) s).reading[k] =
      BitVec.ofNat 8 (mapSensor s.cfg c.inputs[k.val].toNat lo hi) := by
  induction chs generalizing s n with
  | nil => simp at hk
  | cons ch chs ih =>
    obtain ⟨hnotMem, hnodup⟩ := List.nodup_cons.mp hnodup
    cases n with
    | zero =>
      obtain rfl : ch = k := by simpa using hk
      exact (State.acqChannels_reading_of_notMem hnotMem).trans (s.acqChannel_reading_self ch hs hc)
    | succ n =>
      exact ih (s := s.acqChannel settle lo hi ch) hs hnodup (by simpa using hk) (by simpa using hc)

/-- With enough settling, ACQ leaves for each channel the mapped value of what the channel's own input carries in
the channel's own conversion (R133). -/
theorem exec_acq_reading {k : Fin 5} {c : Conversion} (h : exec .acq s = .next t)
    (hs : s.cfg.tSettleMin ≤ s.settle.toNat) (hc : s.env.conversions[k.val]? = some c) :
    t.reading[k] =
      BitVec.ofNat 8 (mapSensor s.cfg c.inputs[k.val].toNat s.rawMin.toNat s.rawMax.toNat) := by
  have hvisited : ∀ j : Fin 5, ([0, 1, 2, 3, 4] : List (Fin 5))[j.val]? = some j := by decide
  obtain rfl : s.acq = t := Host.Outcome.next.inj h
  exact State.acqChannels_reading hs (by decide) (hvisited k) hc

end

/-- Settles O25: both runs store the mapped value of the one input that the two lists agree on. -/
theorem settledChannelsDoNotGhost : Obligations.SettledChannelsDoNotGhost := by
  intro s t t' cs cs' k c c' hs hc hc' hinput ht ht'
  rw [exec_acq_reading ht hs hc, exec_acq_reading ht' hs hc', hinput]

end Sys2Proof.Machine
end

section
/-! PROOFS. The statements of 30_encoding.md: decoding and encoding (R80 to R83, R87), the burst's bytes and
blocks (R97), and RXLOAD (R87). -/

namespace Sys2Proof

/-! ### The fields of a word as numbers (R80, R81) -/

theorem fieldOp_toNat (w : CmdWord) : (fieldOp w).toNat = w.toNat / 2 ^ 24 := by
  rw [fieldOp, BitVec.extractLsb'_toNat, Nat.shiftRight_eq_div_pow]
  omega

theorem fieldA_eq (w : CmdWord) : fieldA w = w.toNat / 2 ^ 16 % 2 ^ 8 := by
  rw [fieldA, BitVec.extractLsb'_toNat, Nat.shiftRight_eq_div_pow]

theorem fieldImm_eq (w : CmdWord) : fieldImm w = w.toNat % 2 ^ 16 := by
  rw [fieldImm, BitVec.extractLsb'_toNat, Nat.shiftRight_zero]

theorem fieldByte_eq (w : CmdWord) : fieldByte w = w.toNat % 2 ^ 8 := by
  rw [fieldByte, BitVec.extractLsb'_toNat, Nat.shiftRight_zero]

theorem fieldWithSeq_eq (w : CmdWord) : fieldWithSeq w = decide (w.toNat / 2 ^ 16 % 2 = 1) :=
  Nat.testBit_eq_decide_div_mod_eq

/-- Two's complement: from 2^15 up the value is below 0 (R81). -/
theorem fieldImmSigned_eq (w : CmdWord) : fieldImmSigned w =
    if w.toNat % 2 ^ 16 < 2 ^ 15 then ((w.toNat % 2 ^ 16 : Nat) : Int)
    else ((w.toNat % 2 ^ 16 : Nat) : Int) - 2 ^ 16 := by
  have himm : (w.extractLsb' 0 16).toNat = w.toNat % 2 ^ 16 := fieldImm_eq w
  rw [fieldImmSigned, BitVec.toInt_eq_toNat_cond, himm]
  split <;> split <;> omega

/-! ### The row a word selects (R82) -/

theorem Opcode.selects_iff {o : Opcode} {w : CmdWord} : o.selects w = true ↔ w &&& o.mask = o.pattern :=
  beq_iff_eq

/-- Bits that the row's mask covers are as in its match. -/
theorem Opcode.extractLsb'_of_selects {o : Opcode} {w : CmdWord} {start len : Nat} (h : o.selects w = true)
    (hm : o.mask.extractLsb' start len = BitVec.allOnes len) :
    w.extractLsb' start len = o.pattern.extractLsb' start len := by
  rw [← Opcode.selects_iff.1 h, BitVec.extractLsb'_and, hm, BitVec.and_allOnes]

/-- The op of a row, bits 31:24 of its match. -/
def Opcode.op (o : Opcode) : Byte := o.pattern.extractLsb' 24 8

/-- Every row's mask covers the op. -/
theorem Opcode.fieldOp_of_selects {o : Opcode} {w : CmdWord} (h : o.selects w = true) : fieldOp w = o.op :=
  Opcode.extractLsb'_of_selects h (by cases o <;> rfl)

/-- A row is the first, and so the only one, with its op. -/
theorem Opcode.find?_op (o : Opcode) : opcodes.find? (fun o' => o'.op == o.op) = some o := by
  cases o <;> rfl

theorem Opcode.op_injective : Function.Injective Opcode.op := fun o o' h =>
  Option.some.inj (by rw [← Opcode.find?_op o, h, Opcode.find?_op])

theorem Opcode.selects_unique {o o' : Opcode} {w : CmdWord} (h : o.selects w = true)
    (h' : o'.selects w = true) : o = o' :=
  Opcode.op_injective ((Opcode.fieldOp_of_selects h).symm.trans (Opcode.fieldOp_of_selects h'))

theorem mem_opcodes (o : Opcode) : o ∈ opcodes := by
  cases o <;> decide

theorem Opcode.selects_of_find? {o : Opcode} {w : CmdWord}
    (h : opcodes.find? (fun o => o.selects w) = some o) : o.selects w = true :=
  List.find?_some (p := fun o : Opcode => o.selects w) h

/-- A word decodes to the command of the row it selects. -/
theorem decode_of_selects {o : Opcode} {w : CmdWord} (h : o.selects w = true) :
    decode w = .ok (o.build w) := by
  unfold decode
  split
  · next o' hfind => rw [Opcode.selects_unique h (Opcode.selects_of_find? hfind)]
  · next hfind => exact absurd h (List.find?_eq_none.1 hfind o (mem_opcodes o))

theorem decode_eq_ok_iff {w : CmdWord} {i : Instr} :
    decode w = .ok i ↔ ∃ o : Opcode, o.selects w = true ∧ i = o.build w := by
  constructor
  · intro h
    unfold decode at h
    split at h
    · next o hfind =>
      injection h with h
      exact ⟨o, Opcode.selects_of_find? hfind, h.symm⟩
    · simp at h
  · rintro ⟨o, hsel, rfl⟩
    exact decode_of_selects hsel

/-- A word that no row selects is refused. -/
theorem decode_of_not_selects {w : CmdWord} (h : ∀ o : Opcode, o.selects w = false) :
    decode w = .error (decodeError w) := by
  unfold decode
  rw [List.find?_eq_none.2 fun o _ => by simp [h o]]

theorem Opcode.exists_iff {p : Opcode → Prop} : (∃ o, p o) ↔ ∃ o ∈ opcodes, p o :=
  ⟨fun ⟨o, h⟩ => ⟨o, mem_opcodes o, h⟩, fun ⟨o, _, h⟩ => ⟨o, h⟩⟩

/-- Settles O3: a word decodes to the command of the one row that selects it, row by row. -/
theorem decodeFollowsOpcodeMap : Obligations.DecodeFollowsOpcodeMap := by
  intro w i
  rw [decode_eq_ok_iff, Opcode.exists_iff]
  simp only [opcodes, List.exists_mem_cons_iff, List.not_mem_nil, false_and, exists_false, or_false]
  simp only [Opcode.selects_iff, Opcode.mask, Opcode.pattern, Opcode.build, fieldA_eq, fieldImm_eq,
    fieldByte_eq, fieldWithSeq_eq, fieldImmSigned_eq]

/-! ### From a command to its word and back (R87) -/

section
variable {op a imm : Nat}

theorem fieldA_commandWord (h1 : op < 256) (h2 : a < 256) (h3 : imm < 65536) :
    fieldA (commandWord op a imm) = a := by
  rw [fieldA_eq, commandWord_toNat h1 h2 h3]
  omega

theorem fieldImm_commandWord (h1 : op < 256) (h2 : a < 256) (h3 : imm < 65536) :
    fieldImm (commandWord op a imm) = imm := by
  rw [fieldImm_eq, commandWord_toNat h1 h2 h3]
  omega

theorem fieldByte_commandWord (h1 : op < 256) (h2 : a < 256) (h3 : imm < 256) :
    fieldByte (commandWord op a imm) = imm := by
  rw [fieldByte_eq, commandWord_toNat h1 h2 (by omega)]
  omega

theorem fieldWithSeq_commandWord (h1 : op < 256) (withSeq : Bool) (h3 : imm < 65536) :
    fieldWithSeq (commandWord op withSeq.toNat imm) = withSeq := by
  have hflag := withSeq.toNat_lt
  have hbit : (op * 2 ^ 24 + withSeq.toNat * 2 ^ 16 + imm) / 2 ^ 16 % 2 = withSeq.toNat := by omega
  rw [fieldWithSeq_eq, commandWord_toNat h1 (by omega) h3, hbit]
  cases withSeq <;> rfl

/-- MAPI's value comes back from its residue modulo 65536. -/
theorem fieldImmSigned_commandWord (h1 : op < 256) (h2 : a < 256) {v : Int} (hlo : -32768 ≤ v)
    (hhi : v ≤ 32767) : fieldImmSigned (commandWord op a (v % 65536).toNat) = v := by
  have himm := fieldImm_commandWord h1 h2 (imm := (v % 65536).toNat) (by omega)
  rw [fieldImm_eq] at himm
  rw [fieldImmSigned_eq, himm]
  split <;> omega

end

/-- The word of a well-formed command is selected by its own row. -/
theorem Instr.selects_encode {i : Instr} (h : i.wf = true) : i.opcode.selects (encode i) = true := by
  cases i with
  | nop => exact Laws.OwnRow.nop h
  | rdreg a => exact Laws.OwnRow.rdreg a h
  | wrreg a imm => exact Laws.OwnRow.wrreg a imm h
  | rxwr a byte => exact Laws.OwnRow.rxwr a byte h
  | txrd a => exact Laws.OwnRow.txrd a h
  | tack => exact Laws.OwnRow.tack h
  | acq => exact Laws.OwnRow.acq h
  | enc withSeq seq => exact Laws.OwnRow.enc withSeq seq h
  | dec => exact Laws.OwnRow.dec h
  | mapv f => exact Laws.OwnRow.mapv f h
  | mapi f v => exact Laws.OwnRow.mapi f v h
  | pwminit hz => exact Laws.OwnRow.pwminit hz h
  | pwmset c us => exact Laws.OwnRow.pwmset c us h
  | pwmsetr f => exact Laws.OwnRow.pwmsetr f h
  | apply => exact Laws.OwnRow.apply h

/-- A command's row takes each operand back from the command's word. -/
theorem Instr.build_encode {i : Instr} (h : i.wf = true) : i.opcode.build (encode i) = i := by
  cases i with
  | nop | tack | acq | dec | apply => rfl
  | rdreg _ | txrd _ | mapv _ | pwmsetr _ | pwminit _ | wrreg _ _ | pwmset _ _ | rxwr _ _ | mapi _ _ =>
    simp only [Instr.wf, okA, okImm, okByte, okSigned, Bool.and_eq_true, decide_eq_true_eq] at h
    simp (disch := omega) only [Instr.opcode, Opcode.build, encode, fieldA_commandWord,
      fieldImm_commandWord, fieldByte_commandWord, fieldImmSigned_commandWord]
  | enc withSeq _ =>
    simp only [Instr.wf, okByte, decide_eq_true_eq] at h
    have hflag := withSeq.toNat_lt
    simp (disch := omega) only [Instr.opcode, Opcode.build, encode, fieldWithSeq_commandWord,
      fieldByte_commandWord]

/-- Settles O1: a command's word is selected by its own row, and by no other, and gives the operands back. -/
theorem decodeOfEncode : Obligations.DecodeOfEncode := fun i h => by
  rw [decode_of_selects (Instr.selects_encode h), Instr.build_encode h]

/-! ### From a word to its command and back (R83, R87) -/

section
variable {o : Opcode} {w : CmdWord} (h : o.selects w = true)
include h

/-- A word is written as its row's op and its own two fields. -/
theorem Opcode.commandWord_of_selects : commandWord o.op.toNat (fieldA w) (fieldImm w) = w := by
  apply BitVec.eq_of_toNat_eq
  rw [← Opcode.fieldOp_of_selects h, fieldOp_toNat, fieldA_eq, fieldImm_eq,
    commandWord_toNat (by omega) (by omega) (by omega)]
  omega

/-- Bits that the row's mask covers and its match leaves 0 are 0. -/
theorem Opcode.covered_eq_zero {start len : Nat} (hm : o.mask.extractLsb' start len = BitVec.allOnes len)
    (hp : o.pattern.extractLsb' start len = 0) : w.toNat / 2 ^ start % 2 ^ len = 0 := by
  have hfield : (w.extractLsb' start len).toNat = 0 := by
    rw [Opcode.extractLsb'_of_selects h hm, hp]
    exact BitVec.toNat_zero
  rwa [BitVec.extractLsb'_toNat, Nat.shiftRight_eq_div_pow] at hfield

/-- A row with no operand `a` covers it. -/
theorem Opcode.fieldA_eq_zero (hm : o.mask.extractLsb' 16 8 = BitVec.allOnes 8) : fieldA w = 0 := by
  rw [fieldA_eq]
  exact Opcode.covered_eq_zero h hm (by cases o <;> rfl)

/-- A row with no operand `imm` covers it. -/
theorem Opcode.fieldImm_eq_zero (hm : o.mask.extractLsb' 0 16 = BitVec.allOnes 16) : fieldImm w = 0 := by
  have hlow := Opcode.covered_eq_zero h hm (by cases o <;> rfl)
  rwa [Nat.pow_zero, Nat.div_one, ← fieldImm_eq] at hlow

/-- A row that covers imm[15:8] leaves the byte imm[7:0] alone. -/
theorem Opcode.fieldImm_eq_fieldByte (hm : o.mask.extractLsb' 8 8 = BitVec.allOnes 8) :
    fieldImm w = fieldByte w := by
  have hhigh := Opcode.covered_eq_zero h hm (by cases o <;> rfl)
  rw [fieldImm_eq, fieldByte_eq]
  omega

/-- A row that covers a[7:1] leaves the flag a[0] alone. -/
theorem Opcode.fieldA_eq_fieldWithSeq (hm : o.mask.extractLsb' 17 7 = BitVec.allOnes 7) :
    fieldA w = (fieldWithSeq w).toNat := by
  have hhigh := Opcode.covered_eq_zero h hm (by cases o <;> rfl)
  rw [fieldA_eq, fieldWithSeq_eq, Bool.toNat, Bool.cond_decide]
  split <;> omega

end

/-- The residue of MAPI's value is its field (R87). -/
theorem fieldImmSigned_mod (w : CmdWord) : (fieldImmSigned w % 65536).toNat = fieldImm w := by
  rw [fieldImmSigned_eq, fieldImm_eq]
  split <;> omega

/-- The command that a row builds from a word it selects is written as that word. -/
theorem Opcode.encode_build {o : Opcode} {w : CmdWord} (h : o.selects w = true) :
    encode (o.build w) = w := by
  have hw := Opcode.commandWord_of_selects h
  cases o with
  | nop | tack | acq | dec | apply =>
    rwa [Opcode.fieldA_eq_zero h rfl, Opcode.fieldImm_eq_zero h rfl] at hw
  | rdreg | txrd | mapv | pwmsetr => rwa [Opcode.fieldImm_eq_zero h rfl] at hw
  | pwminit => rwa [Opcode.fieldA_eq_zero h rfl] at hw
  | wrreg | pwmset => exact hw
  | rxwr => rwa [Opcode.fieldImm_eq_fieldByte h rfl] at hw
  | enc => rwa [Opcode.fieldA_eq_fieldWithSeq h rfl, Opcode.fieldImm_eq_fieldByte h rfl] at hw
  | mapi => rwa [← fieldImmSigned_mod] at hw

/-- Settles O2: bits that are no operand are fixed by the row, so that the word holds nothing else. -/
theorem encodeOfDecode : Obligations.EncodeOfDecode := by
  intro w i h
  obtain ⟨o, hsel, rfl⟩ := decode_eq_ok_iff.1 h
  exact ⟨build_wf o w, Opcode.encode_build hsel⟩

/-- Settles O4, by evaluating the decoder. -/
theorem writtenWordsDecode : Obligations.WrittenWordsDecode := by
  unfold Obligations.WrittenWordsDecode
  decide

end Sys2Proof

namespace Sys2Proof.Machine

/-! ### A word that no row selects (R83) -/

/-- Settles O5: the decoder refuses the word, and the step ends with the response alone. -/
theorem illegalWordChangesNothing : Obligations.IllegalWordChangesNothing := by
  intro s w rest hbusy hin hnone
  have hdec := decode_of_not_selects fun o => beq_eq_false_iff_ne.2 (hnone o)
  refine ⟨(s.accept rest).illegal, by simp [step, hin, hbusy, runWord, hdec], ?_⟩
  exact Leaves.of_grows (u := s.accept rest) (r := s) (.of_env rfl rfl) rfl rfl .illegalCmd 0

/-! ### The duty-cycle burst (R97; 20_memory.md R62, R63) -/

/-- The block of a channel starts at its own number, without wrap. -/
theorem channelReg_toNat {c : Config} (hc : c.Valid) (k : Fin 16) :
    (channelReg c k).toNat = c.regChBase.toNat + 4 * k.val := by
  obtain ⟨-, -, -, -, -, hbase, -⟩ := hc
  rw [channelReg, BitVec.toNat_add, BitVec.toNat_ofNat]
  omega

theorem burstBytes_eq (off : BitVec 12) :
    burstBytes off = [0, 0, BitVec.ofNat 8 (off.toNat % 256), BitVec.ofNat 8 (off.toNat / 256)] := by
  have hlow : off.setWidth 8 = BitVec.ofNat 8 (off.toNat % 256) := by
    apply BitVec.eq_of_toNat_eq
    simp
  have hhigh : (off.extractLsb' 8 4).setWidth 8 = BitVec.ofNat 8 (off.toNat / 256) := by
    apply BitVec.eq_of_toNat_eq
    rw [BitVec.toNat_setWidth, BitVec.extractLsb'_toNat, Nat.shiftRight_eq_div_pow, BitVec.toNat_ofNat]
    omega
  rw [burstBytes, hlow, hhigh]

/-- Settles O47: the blocks are four numbers apart and end within 255. -/
theorem burstCarriesCount : Obligations.BurstCarriesCount := by
  refine ⟨burstBytes_eq, fun c k hc => ⟨channelReg_toNat hc k, ?_⟩, fun c k l hc hkl => ?_⟩
  · obtain ⟨-, -, -, -, -, hbase, -⟩ := id hc
    rw [channelReg_toNat hc]
    omega
  · rw [channelReg_toNat hc, channelReg_toNat hc]
    omega

/-! ### RXLOAD (R87; 40_host_access.md R113, R114) -/

/-- Commands one after another: where the first ones end, the others start. -/
theorem execAll_append {is js : List Instr} {s t : State} (h : execAll is s = .next t) :
    execAll (is ++ js) s = execAll js t := by
  induction is generalizing s with
  | nil =>
    obtain rfl : s = t := Host.Outcome.next.inj h
    rfl
  | cons i is ih =>
    obtain ⟨u, hexec, -⟩ := exec_answers i s
    rw [execAll, hexec] at h
    rw [List.cons_append, execAll, hexec]
    exact ih h

/-- RXWR of one byte inside RX. -/
theorem exec_rxwr {s : State} {a : Nat} (h : a < s.cfg.frameMax) (b : Byte) :
    ∃ t, exec (.rxwr a b.toNat) s = .next t ∧ t.still = { s.still with rx := s.rx.write a b } := by
  refine ⟨_, rfl, ?_⟩
  rw [State.rxwr, if_neg (by omega), BitVec.ofNat_toNat, BitVec.setWidth_eq]
  rfl

/-- WRREG of a byte to RXLEN. -/
theorem exec_wrreg_rxlen (s : State) {n : Nat} (h : n ≤ 255) :
    ∃ t, exec (.wrreg 0x04 n) s = .next t ∧ t.still = { s.still with rxlen := BitVec.ofNat 8 n } := by
  refine ⟨_, rfl, ?_⟩
  have hreg : Reg.ofIndex 0x04 = some .rxlen := rfl
  have hbyte : ¬ 255 < n := by omega
  simp [State.wrreg, hreg, Reg.readOnly, hbyte, State.writeReg, State.still]

/-- The RXWR commands of a text store it from `a` up. -/
theorem execAll_rxwr {s : State} {a : Nat} {text : List Byte} (h : a + text.length ≤ s.cfg.frameMax) :
    ∃ t, execAll ((text.zipIdx a).map fun p => .rxwr p.2 p.1.toNat) s = .next t ∧
      t.still = { s.still with rx := s.rx.writeBytes a text } := by
  induction text generalizing s a with
  | nil => exact ⟨s, rfl, rfl⟩
  | cons b text ih =>
    rw [List.length_cons] at h
    obtain ⟨u, hexec, hu⟩ := exec_rxwr (show a < s.cfg.frameMax by omega) b
    have hcfg : u.cfg = s.cfg := (congrArg State.cfg hu :)
    have hrx : u.rx = s.rx.write a b := (congrArg State.rx hu :)
    obtain ⟨t, hrun, ht⟩ := ih (s := u) (a := a + 1) (by rw [hcfg]; omega)
    refine ⟨t, ?_, by rw [ht, hu, hrx]; rfl⟩
    rw [List.zipIdx_cons, List.map_cons, execAll, hexec]
    exact hrun

/-- Settles O35: the RXWR commands store the text, and WRREG its length. -/
theorem rxloadPlacesText : Obligations.RxloadPlacesText := by
  intro s text hrx hmax hlen
  obtain ⟨u, hload, hu⟩ := execAll_rxwr (a := 0) (s := s) (text := text) (by omega)
  obtain ⟨t, hexec, ht⟩ := exec_wrreg_rxlen u hlen
  rw [hu] at ht
  have htrx : t.rx = s.rx.writeBytes 0 text := (congrArg State.rx ht :)
  refine ⟨t, ?_, by rw [ht, htrx], fun k hk => ?_, fun k hk => ?_⟩
  · rw [rxload, execAll_append hload, execAll, hexec]
    rfl
  · rw [htrx, Memory.read_writeBytes hrx, dif_pos (by omega)]
    rfl
  · rw [htrx, Memory.read_writeBytes hrx, dif_neg (by omega)]

end Sys2Proof.Machine
end

section
/-! PROOFS. The statements of 40_host_access.md: what NOP, RDREG, WRREG, RXWR, TXRD and TACK answer, write
and leave (R111 to R116). -/

namespace Sys2Proof.Machine

variable {s t : State}

/-! ### The end of a command, told from the state it starts in -/

/-- `Leaves` knows the state a command starts in by its outside world alone. -/
theorem Leaves.congr_start {s' r : State} {evs : List Event} (h : Leaves s r t evs) (he : s'.env = s.env) :
    Leaves s' r t evs where
  registers := h.registers
  tickFlag := by rw [h.tickFlag, State.tickWithin, State.tickWithin, he]
  idle := h.idle
  events := by rw [h.events, State.events, State.events, he]
  input := by rw [h.input, he]
  ticks := by rw [h.ticks, he]
  conversions := by rw [h.conversions, he]
  busReplies := by rw [h.busReplies, he]

/-- A command that writes registers, then answers, completes with what it wrote: TICK may be among them. -/
theorem Completes.of_write {i : Instr} {r : State} {st : Status} {d : Word16}
    (he : exec i s = .next (r.respond st d)) (hr : r.env = s.env) : Completes i s r [.rsp st d] :=
  ⟨_, he, (Leaves.respond r st d).congr_start hr.symm⟩

/-- A command that only answers completes with every register as before. -/
theorem Completes.of_answer {i : Instr} {st : Status} {d : Word16} (he : exec i s = .next (s.respond st d)) :
    Completes i s s [.rsp st d] :=
  .of_write he rfl

/-! ### RDREG (R112; 10_state.md R35) -/

section
variable {r : Reg}

/-- RDREG of a register's own index: its value, or NO_DATA while its valid flag is 0. -/
theorem State.rdreg_index (s : State) (r : Reg) :
    s.rdreg r.index = if s.regValid r then s.respond .ok (s.regValue r) else s.respond .noData 0 := by
  rw [State.rdreg, Reg.ofIndex_index]
  rfl

/-- RDREG of an index that R35 assigns to no register. -/
theorem State.rdreg_of_unassigned (s : State) {a : Nat} (h : Reg.ofIndex a = none) :
    s.rdreg a = s.respond .badAddr 0 := by
  rw [State.rdreg, h]
  rfl

/-- RDREG of a register with a valid flag. -/
theorem Completes.rdreg_flagged {d : Word16} (hd : s.regValue r = d) :
    Completes (.rdreg r.index) s s [if s.regValid r then .rsp .ok d else .rsp .noData 0] := by
  have hexec : exec (.rdreg r.index) s = .next _ := congrArg Host.Outcome.next (s.rdreg_index r)
  rw [hd] at hexec
  split
  · next hv => exact .of_answer (by rw [hexec, if_pos hv])
  · next hv => exact .of_answer (by rw [hexec, if_neg hv])

/-- RDREG of a register that is always valid. -/
theorem Completes.rdreg_valid {d : Word16} (hv : s.regValid r = true) (hd : s.regValue r = d) :
    Completes (.rdreg r.index) s s [.rsp .ok d] := by
  have h := Completes.rdreg_flagged hd
  rwa [if_pos hv] at h

/-- SEQ with SEQV in bit 8 (R35). -/
theorem State.regValue_seq (s : State) :
    s.regValue .seq = BitVec.ofNat 16 (s.seq.toNat + if s.seqv then 256 else 0) := by
  have happend : (BitVec.ofBool s.seqv ++ s.seq).toNat = s.seqv.toNat * 2 ^ 8 + s.seq.toNat := by
    rw [BitVec.toNat_append, BitVec.toNat_ofBool, Nat.shiftLeft_eq_mul_pow,
      Nat.mul_comm, Nat.two_pow_add_eq_or_of_lt s.seq.isLt]
  rw [State.regValue, ← BitVec.ofNat_toNat, happend]
  cases s.seqv <;> simp [Nat.add_comm]

/-- TICK in bit 0 (R35). -/
theorem State.regValue_tick (s : State) : s.regValue .tick = if s.tick then 1 else 0 := by
  rw [State.regValue]
  cases s.tick <;> rfl

/-- The code of PHASE in bits 1:0 (10_state.md R30, R35). -/
theorem State.regValue_phase (s : State) :
    s.regValue .phase = match s.phase with | .uninit => 0 | .ready => 1 | .dead => 2 := by
  rw [State.regValue]
  cases s.phase <;> rfl

end

/-- Settles O16: each index is that of a register with or without a valid flag, or of none. -/
theorem rdregAnswersRegister : Obligations.RdregAnswersRegister := by
  intro s
  have hwide {n : Nat} (x : BitVec n) : x.setWidth 16 = BitVec.ofNat 16 x.toNat :=
    (BitVec.ofNat_toNat 16 x).symm
  refine ⟨.rdreg_valid (r := .settle) rfl rfl, .rdreg_valid (r := .rawMin) rfl rfl,
    .rdreg_valid (r := .rawMax) rfl rfl, .rdreg_valid (r := .rxlen) rfl (hwide _),
    .rdreg_valid (r := .txlen) rfl (hwide _), .rdreg_valid (r := .seq) rfl s.regValue_seq,
    .rdreg_valid (r := .freq) rfl rfl, .rdreg_valid (r := .phase) rfl s.regValue_phase,
    .rdreg_valid (r := .tick) rfl s.regValue_tick, .rdreg_valid (r := .sel) rfl (hwide _),
    fun i => .rdreg_flagged (r := .reading i) (hwide _), fun f => .rdreg_flagged (r := .val f) (hwide _),
    fun f => .rdreg_flagged (r := .pulse f) rfl, fun c => .rdreg_flagged (r := .duty c) (hwide _),
    fun a ha => .of_answer (congrArg Host.Outcome.next (s.rdreg_of_unassigned (Reg.ofIndex_unassigned ha)))⟩

/-! ### WRREG (R113; 10_state.md R35) -/

section
variable {r : Reg} {imm : Nat}

/-- WRREG of a register's own index: a read-only register and a value above its eight bits are refused. -/
theorem State.wrreg_index (s : State) (r : Reg) (imm : Nat) :
    s.wrreg r.index imm =
      if r.readOnly then s.respond .readOnly 0
      else if r.isByte && decide (255 < imm) then s.respond .badOperand 0
      else (s.writeReg r imm).respond .ok 0 := by
  rw [State.wrreg, Reg.ofIndex_index]
  rfl

/-- WRREG of an index that R35 assigns to no register. -/
theorem State.wrreg_of_unassigned (s : State) {a : Nat} (h : Reg.ofIndex a = none) (imm : Nat) :
    s.wrreg a imm = s.respond .badAddr 0 := by
  rw [State.wrreg, h]
  rfl

/-- WRREG of a writable register, with a value it holds. -/
theorem Completes.wrreg_written (hw : r.readOnly = false) (hfit : r.isByte = true → imm ≤ 255) :
    Completes (.wrreg r.index imm) s (s.writeReg r imm) [.rsp .ok 0] := by
  have hbyte : ¬ (r.isByte && decide (255 < imm)) = true := by simpa using hfit
  refine .of_write (congrArg Host.Outcome.next ?_) (s.writeReg_env r imm)
  rw [State.wrreg_index, if_neg (by simp [hw]), if_neg hbyte]

/-- WRREG of a writable eight-bit register, with a value above its eight bits. -/
theorem Completes.wrreg_overflow (hw : r.readOnly = false) (hbyte : r.isByte = true) (hbig : 255 < imm) :
    Completes (.wrreg r.index imm) s s [.rsp .badOperand 0] := by
  refine .of_answer (congrArg Host.Outcome.next ?_)
  rw [State.wrreg_index, if_neg (by simp [hw]), if_pos (by simp [hbyte, hbig])]

/-- WRREG of a read-only register. -/
theorem Completes.wrreg_readOnly (hr : r.readOnly = true) :
    Completes (.wrreg r.index imm) s s [.rsp .readOnly 0] :=
  .of_answer (congrArg Host.Outcome.next (by rw [State.wrreg_index, if_pos hr]))

/-- The indices that R35 gives the access "RO" name read-only registers. -/
theorem Reg.readOnly_of_index (a : Fin 64)
    (h : (0x05 ≤ a.val ∧ a.val ≤ 0x0A) ∨ (0x18 ≤ a.val ∧ a.val ≤ 0x1C) ∨ (0x20 ≤ a.val ∧ a.val ≤ 0x24) ∨
      (0x30 ≤ a.val ∧ a.val ≤ 0x3F)) : (Reg.ofIndex a.val).any Reg.readOnly = true := by
  revert a
  decide

end

/-- Settles O17: each index is that of a writable or of a read-only register, or of none. -/
theorem wrregWritesRegister : Obligations.WrregWritesRegister := by
  intro s imm _
  refine ⟨.wrreg_written (r := .settle) rfl nofun, .wrreg_written (r := .rawMin) rfl nofun,
    .wrreg_written (r := .rawMax) rfl nofun, fun h => .wrreg_written (r := .rxlen) rfl fun _ => h,
    .wrreg_overflow (r := .rxlen) rfl rfl, fun i h => .wrreg_written (r := .reading i) rfl fun _ => h,
    fun i => .wrreg_overflow (r := .reading i) rfl rfl, fun a ha => ?_,
    fun a ha => .of_answer (congrArg Host.Outcome.next (s.wrreg_of_unassigned (Reg.ofIndex_unassigned ha) imm))⟩
  obtain ⟨r, hindex, hro⟩ := (Option.any_eq_true _ _).1 (Reg.readOnly_of_index ⟨a, by omega⟩ ha)
  obtain rfl := Reg.index_of_ofIndex hindex
  exact .wrreg_readOnly hro

/-! ### RXWR, TXRD, NOP and TACK (R111, R114 to R116) -/

/-- Settles O18: a write to RX in canonical form changes the byte at its address alone. -/
theorem rxwrStoresOneByte : Obligations.RxwrStoresOneByte := by
  intro s a byte hrx _
  refine ⟨fun ha => ?_, fun ha => .of_answer (congrArg Host.Outcome.next (if_pos ha))⟩
  obtain ⟨t, hexec, hleaves⟩ : Completes (.rxwr a byte) s { s with rx := s.rx.write a (BitVec.ofNat 8 byte) }
      [.rsp .ok 0] := .of_write (congrArg Host.Outcome.next (if_neg (Nat.not_le.2 ha))) rfl
  have htrx : t.rx = s.rx.write a (BitVec.ofNat 8 byte) := (congrArg State.rx hleaves.registers :)
  refine ⟨t, hexec, htrx ▸ hleaves, fun x => ?_⟩
  rw [htrx, Memory.read_write hrx]

/-- Settles O15: the word 1 sets a bit that NOP's row reserves; NOP only answers. -/
theorem nopChangesNothing : Obligations.NopChangesNothing :=
  ⟨by decide, by decide, fun _ => .of_answer rfl⟩

/-- Settles O19: inside TX the answer is its byte, outside it is BAD_ADDR. -/
theorem txrdAnswersByte : Obligations.TxrdAnswersByte := by
  refine fun s a => ⟨fun ha => ?_, fun ha => .of_answer (congrArg Host.Outcome.next (if_pos ha))⟩
  rw [BitVec.ofNat_toNat]
  exact .of_answer (congrArg Host.Outcome.next (if_neg (Nat.not_le.2 ha)))

/-- Settles O20: TACK's answer is what RDREG gives for TICK, and its write clears the flag. -/
theorem tackAnswersAndClears : Obligations.TackAnswersAndClears := by
  intro s
  rw [← s.regValue_tick]
  exact .of_write rfl rfl

end Sys2Proof.Machine
end

section
/-! PROOFS. The statements of 41_acquisition.md: the sample normaliser (R131, R134; 00_scope.md R19) and the
five channels of ACQ (R133; 20_memory.md R67). -/

namespace Sys2Proof.Machine

/-! ### Rounding and clamping (00_scope.md R19) -/

section
variable {a a' b x lo hi : Nat}

/-- A numerator half-way between two multiples rounds to the even one. -/
theorem rdiv_even_of_tie (hb : 0 < b)
    (h : 2 * a = 2 * (rdiv a b * b) + b ∨ 2 * a + b = 2 * (rdiv a b * b)) : rdiv a b % 2 = 0 := by
  have hdm := Nat.div_add_mod' a b
  have hlt := Nat.mod_lt a hb
  revert h
  unfold rdiv
  dsimp only
  split
  · rw [Nat.add_mul]
    omega
  · split
    · omega
    · split <;> omega

/-- `rdiv` on integers: the nearest to a/b, and the even one of two that are equally near. -/
theorem rdiv_nearest (a : Nat) (hb : 0 < b) :
    2 * (a : Int) - b ≤ 2 * (rdiv a b : Int) * b ∧ 2 * (rdiv a b : Int) * b ≤ 2 * a + b ∧
      (2 * (rdiv a b : Int) * b = 2 * a - b ∨ 2 * (rdiv a b : Int) * b = 2 * a + b →
        (rdiv a b : Int) % 2 = 0) := by
  obtain ⟨hupper, hlower⟩ := rdiv_near (a := a) hb
  have htie := rdiv_even_of_tie (a := a) hb
  have hcast : 2 * (rdiv a b : Int) * b = ((2 * (rdiv a b * b) : Nat) : Int) := by push_cast; ring
  rw [hcast]
  omega

/-- `rdiv` keeps the order of numerators: a lower result would be off by more than half for one of them. -/
theorem rdiv_mono (hb : 0 < b) (h : a ≤ a') : rdiv a b ≤ rdiv a' b := by
  by_contra hlt
  have hstep : (rdiv a' b + 1) * b ≤ rdiv a b * b := Nat.mul_le_mul_right b (by omega)
  rw [Nat.add_mul] at hstep
  have hupper := (rdiv_near (a := a) hb).1
  have hlower := (rdiv_near (a := a') hb).2
  obtain rfl : a = a' := by omega
  exact hlt (Nat.le_refl _)

theorem clamp_nat_eq_min_max (h : lo ≤ hi) : clamp x lo hi = min (max x lo) hi := by
  unfold clamp
  split
  · omega
  · split <;> omega

/-! ### map_sensor (R131, R134) -/

variable {c : Config} {r : Nat}

theorem mapSensor_of_le (h : hi ≤ lo) : mapSensor c r lo hi = 0 := if_pos h

theorem mapSensor_of_lt (h : lo < hi) :
    mapSensor c r lo hi = rdiv ((min (max r lo) hi - lo) * c.vmax.toNat) (hi - lo) := by
  rw [← clamp_nat_eq_min_max h.le]
  exact if_neg h.not_ge

theorem mapSensor_mono {r' : Nat} (h : lo < hi) (hr : r ≤ r') :
    mapSensor c r lo hi ≤ mapSensor c r' lo hi := by
  rw [mapSensor_of_lt h, mapSensor_of_lt h]
  exact rdiv_mono (Nat.sub_pos_of_lt h) (Nat.mul_le_mul_right _ (by omega))

theorem mapSensor_of_le_lo (h : lo < hi) (hr : r ≤ lo) : mapSensor c r lo hi = 0 := by
  have hoffset : min (max r lo) hi - lo = 0 := by omega
  rw [mapSensor_of_lt h, hoffset, Nat.zero_mul, rdiv_zero]

theorem mapSensor_of_hi_le (h : lo < hi) (hr : hi ≤ r) : mapSensor c r lo hi = c.vmax.toNat := by
  have hclamped : min (max r lo) hi = hi := by omega
  rw [mapSensor_of_lt h, hclamped, Nat.mul_comm, rdiv_mul_self (Nat.sub_pos_of_lt h)]

theorem mapSensor_le_vmax (c : Config) (r lo hi : Nat) : mapSensor c r lo hi ≤ c.vmax.toNat := by
  rcases Nat.lt_or_ge lo hi with h | h
  · calc mapSensor c r lo hi ≤ mapSensor c (max r hi) lo hi := mapSensor_mono h (Nat.le_max_left r hi)
      _ = c.vmax.toNat := mapSensor_of_hi_le h (Nat.le_max_right r hi)
  · rw [mapSensor_of_le h]
    exact Nat.zero_le _

end

/-- Settles O23: on a window that is not degenerate, map_sensor is `rdiv` of the clamped sample's offset. -/
theorem mapSensorIsNearest : Obligations.MapSensorIsNearest := by
  refine fun c r lo hi => ⟨mapSensor_of_le, fun h => ?_⟩
  have hnear := rdiv_nearest ((min (max r lo) hi - lo) * c.vmax.toNat) (Nat.sub_pos_of_lt h)
  rw [← mapSensor_of_lt h, Nat.cast_mul, Nat.cast_sub (by omega), Nat.cast_sub h.le] at hnear
  exact hnear

/-- Settles O24: rounding keeps order and is exact at both ends of the window. -/
theorem mapSensorProperties : Obligations.MapSensorProperties := fun c lo hi =>
  ⟨fun h => ⟨fun _ _ => mapSensor_mono h, fun _ => mapSensor_of_le_lo h, fun _ => mapSensor_of_hi_le h⟩,
    fun r => mapSensor_le_vmax c r lo hi, fun h _ => mapSensor_of_le h.ge⟩

/-! ### One turn of ACQ's loop (R133) -/

/-- The sample a turn takes on a channel. -/
def State.acqSample (settle : Nat) (s : State) (ch : Fin 5) : Word16 :=
  ((s.select (BitVec.ofNat 3 ch.val)).waitCycles settle).sample.1

/-- What a turn writes on a channel whose reading becomes `v`. -/
def State.selectAndStore (ch : Fin 5) (v : Byte) (s : State) : State :=
  { s with sel := BitVec.ofNat 3 ch.val }.storeReading ch v

section
variable (settle lo hi : Nat) (s : State)

/-- A turn's events: the channel is selected, SETTLE cycles pass, one sample is taken. -/
theorem Grows.acqChannel (ch : Fin 5) :
    Grows s (s.acqChannel settle lo hi ch)
      [.sel (BitVec.ofNat 3 ch.val), .wait settle, .sample (s.acqSample settle ch)] :=
  (((Grows.select s _).trans (.waitCycles _ settle)).trans (.sample _)).congr rfl rfl rfl rfl

/-- A turn writes SEL, and the channel's reading with its flag. -/
theorem State.still_acqChannel (ch : Fin 5) :
    (s.acqChannel settle lo hi ch).still =
      s.still.selectAndStore ch (BitVec.ofNat 8 (mapSensor s.cfg (s.acqSample settle ch).toNat lo hi)) := rfl

theorem State.acqChannels_cfg (chs : List (Fin 5)) :
    (chs.foldl (State.acqChannel settle lo hi) s).cfg = s.cfg := by
  induction chs generalizing s with
  | nil => rfl
  | cons ch chs ih => exact ih _

/-- Each channel gone through uses up one conversion. -/
theorem State.acqChannels_conversions (chs : List (Fin 5)) :
    (chs.foldl (State.acqChannel settle lo hi) s).env.conversions = s.env.conversions.drop chs.length := by
  induction chs generalizing s with
  | nil => rfl
  | cons ch chs ih => rw [List.foldl_cons, ih, State.acqChannel_conversions, List.drop_tail, List.length_cons]

end

/-! ### The five turns of ACQ (R133) -/

/-- The state when ACQ, started in `s`, has gone through the first `n` channels. -/
def State.acqFirst (s : State) (n : Nat) : State :=
  (([0, 1, 2, 3, 4] : List (Fin 5)).take n).foldl
    (State.acqChannel s.settle.toNat s.rawMin.toNat s.rawMax.toNat) s

/-- The samples of ACQ, channel by channel. -/
def State.acqSamples (s : State) : Vector Word16 5 :=
  Vector.ofFn fun k => (s.acqFirst k.val).acqSample s.settle.toNat k

/-- The readings of ACQ, channel by channel. -/
def State.acqReading (s : State) (k : Fin 5) : Byte :=
  BitVec.ofNat 8 (mapSensor s.cfg s.acqSamples[k].toNat s.rawMin.toNat s.rawMax.toNat)

section
variable (s : State) (k : Fin 5)

theorem State.acq_eq_respond : s.acq = (s.acqFirst 5).respond .ok 0 := rfl

theorem State.getElem_acqSamples : s.acqSamples[k] = (s.acqFirst k.val).acqSample s.settle.toNat k :=
  Vector.getElem_ofFn k.isLt

theorem State.acqFirst_succ : s.acqFirst (k.val + 1) =
    (s.acqFirst k.val).acqChannel s.settle.toNat s.rawMin.toNat s.rawMax.toNat k := by
  have htake : ∀ j : Fin 5, ([0, 1, 2, 3, 4] : List (Fin 5)).take (j.val + 1) =
      ([0, 1, 2, 3, 4] : List (Fin 5)).take j.val ++ [j] := by decide
  rw [State.acqFirst, htake, List.foldl_append]
  rfl

theorem State.acqFirst_cfg (n : Nat) : (s.acqFirst n).cfg = s.cfg := State.acqChannels_cfg _ _ _ _ _

theorem State.acqFirst_conversions :
    (s.acqFirst k.val).env.conversions = s.env.conversions.drop k.val := by
  rw [State.acqFirst, State.acqChannels_conversions, List.length_take_of_le (by simp)]

/-- The events of one turn of ACQ, told with ACQ's samples. -/
theorem Grows.acqFirst_succ : Grows (s.acqFirst k.val) (s.acqFirst (k.val + 1))
    [.sel (BitVec.ofNat 3 k.val), .wait s.settle.toNat, .sample s.acqSamples[k]] := by
  rw [s.acqFirst_succ, s.getElem_acqSamples]
  exact .acqChannel _ _ _ _ k

/-- The registers of one turn of ACQ, told with ACQ's readings. -/
theorem State.still_acqFirst_succ {n : Nat} (hn : n < 5) : (s.acqFirst (n + 1)).still =
    (s.acqFirst n).still.selectAndStore ⟨n, hn⟩ (s.acqReading ⟨n, hn⟩) := by
  rw [s.acqFirst_succ ⟨n, hn⟩, State.still_acqChannel, s.acqFirst_cfg, State.acqReading, s.getElem_acqSamples]

/-- With enough settling, each sample is what the channel's own input carries in its own conversion (R67). -/
theorem State.acqSamples_of_settled {c : Conversion} (hs : s.cfg.tSettleMin ≤ s.settle.toNat)
    (hc : s.env.conversions[k.val]? = some c) : s.acqSamples[k] = c.inputs[k.val] := by
  rw [s.getElem_acqSamples]
  refine State.sample_select_waitCycles k (by rwa [s.acqFirst_cfg]) ?_
  rwa [s.acqFirst_conversions, List.getElem?_drop, Nat.add_zero]

end

/-- Once all five entries are written, nothing is left of what stood there. -/
theorem set_all_five {α : Type} (v : Vector α 5) (a b c d e : α) :
    ((((v.set 0 a).set 1 b).set 2 c).set 3 d).set 4 e = #v[a, b, c, d, e] := by
  ext i hi
  match i with
  | 0 | 1 | 2 | 3 | 4 => simp

/-- ACQ's registers: every reading is written once, and SEL stays at the last channel. -/
theorem State.still_acqFirst_five (s : State) : (s.acqFirst 5).still =
    State.still { s with
      sel := 4
      reading := #v[s.acqReading 0, s.acqReading 1, s.acqReading 2, s.acqReading 3, s.acqReading 4]
      readv := #v[true, true, true, true, true] } := by
  simp only [State.still_acqFirst_succ, Nat.reduceLT]
  rw [← set_all_five s.reading, ← set_all_five s.readv]
  rfl

/-- Settles O22: five turns, each with its three events and its reading, and then the response. -/
theorem acqReadsFiveChannels : Obligations.AcqReadsFiveChannels := by
  intro s
  refine ⟨s.acqSamples, ?_, fun hs k c => s.acqSamples_of_settled k hs⟩
  have hevents := ((((Grows.acqFirst_succ s 0).trans (.acqFirst_succ s 1)).trans (.acqFirst_succ s 2)).trans
    (.acqFirst_succ s 3)).trans (.acqFirst_succ s 4)
  have hexec : exec .acq s = .next ((s.acqFirst 5).respond .ok 0) := congrArg Host.Outcome.next s.acq_eq_respond
  exact (Completes.of_grows hexec hevents s.still_acqFirst_five rfl :)

end Sys2Proof.Machine
end

section
/-! PROOFS. The statements of 42_mapping.md: value_to_pulse (R151 to R154), MAPV and MAPI (R155, R156). -/

namespace Sys2Proof.Machine

/-! ### The exact fraction (R151, steps 1 to 5) -/

theorem clamp_int_eq_max_min {x lo hi : Int} (h : lo ≤ hi) : clamp x lo hi = max lo (min x hi) := by
  unfold clamp
  split
  · omega
  · split <;> omega

/-- The numerator n0 of R151: how far the clamped and floored value lies above the floor. -/
def aboveFloor (c : Config) (v : Int) : Nat :=
  max (clamp v 0 c.vmax.toNat).toNat c.floor.toNat - c.floor.toNat

section
variable (c : Config) (f g : Fin 5) (v : Int)

theorem pulseWidthSpan_pos : 0 < pulseWidthSpan c := Nat.le_max_right _ _

theorem pulseWidthSpan_cast : (pulseWidthSpan c : Int) = max ((c.vmax.toNat : Int) - c.floor.toNat) 1 := by
  unfold pulseWidthSpan
  omega

theorem aboveFloor_cast :
    (aboveFloor c v : Int) = max (max 0 (min v c.vmax.toNat)) c.floor.toNat - c.floor.toNat := by
  rw [aboveFloor, clamp_int_eq_max_min (Int.natCast_nonneg _)]
  omega

theorem aboveFloor_le : aboveFloor c v ≤ pulseWidthSpan c := by
  have hoffset := aboveFloor_cast c v
  have hspan := pulseWidthSpan_cast c
  omega

/-- R154: on an exact fraction two inversions cancel, so the numerator is inverted where just one applies. -/
theorem pulseNumerator_eq : pulseNumerator c f v =
    if c.invertAll = c.chInvert[f] then aboveFloor c v else pulseWidthSpan c - aboveFloor c v := by
  have hle := aboveFloor_le c v
  have hsteps : pulseNumerator c f v =
      let n1 := if c.invertAll then pulseWidthSpan c - aboveFloor c v else aboveFloor c v
      if c.chInvert[f] then pulseWidthSpan c - n1 else n1 := rfl
  rw [hsteps]
  cases c.invertAll <;> cases c.chInvert[f] <;> simp [Nat.sub_sub_self hle]

/-- The numerator on integers, as steps 4 and 5 of R151 give it. -/
theorem pulseNumerator_cast : (pulseNumerator c f v : Int) =
    let n1 : Int := if c.invertAll then pulseWidthSpan c - aboveFloor c v else aboveFloor c v
    if c.chInvert[f] then pulseWidthSpan c - n1 else n1 := by
  have hle := aboveFloor_le c v
  rw [pulseNumerator_eq]
  cases c.invertAll <;> cases c.chInvert[f] <;> simp [Nat.cast_sub hle]

variable {c f g v}

/-- The pulse depends on the numerator alone. -/
theorem valueToPulse_congr {v' : Int} (h : pulseNumerator c f v = pulseNumerator c g v') :
    valueToPulse c f v = valueToPulse c g v' := by
  rw [valueToPulse, valueToPulse, h]

/-- On one channel, values that are equally far above the floor have the same pulse. -/
theorem valueToPulse_of_aboveFloor {v' : Int} (h : aboveFloor c v = aboveFloor c v') :
    valueToPulse c f v = valueToPulse c f v' :=
  valueToPulse_congr (by rw [pulseNumerator_eq, pulseNumerator_eq, h])

/-! ### Where values meet (R153) -/

theorem aboveFloor_of_nonpos (h : v ≤ 0) : aboveFloor c v = aboveFloor c 0 := by
  have hv := aboveFloor_cast c v
  have h0 := aboveFloor_cast c 0
  omega

theorem aboveFloor_of_vmax_le (h : (c.vmax.toNat : Int) ≤ v) : aboveFloor c v = c.vmax.toNat - c.floor.toNat := by
  have hv := aboveFloor_cast c v
  omega

theorem aboveFloor_of_le_floor (h : v ≤ c.floor.toNat) : aboveFloor c v = 0 := by
  have hv := aboveFloor_cast c v
  omega

/-- An inverted channel has the rest of a normal one's fraction. -/
theorem pulseNumerator_of_inverted (hf : c.chInvert[f] = true) (hg : c.chInvert[g] = false) :
    pulseNumerator c f v = pulseWidthSpan c - pulseNumerator c g v := by
  have hle := aboveFloor_le c v
  rw [pulseNumerator_eq, pulseNumerator_eq, hf, hg]
  cases c.invertAll <;> simp [Nat.sub_sub_self hle]

/-- On one channel, values whose offsets add up to the whole range have fractions that do. -/
theorem pulseNumerator_of_mirrored {v' : Int} (h : aboveFloor c v' = pulseWidthSpan c - aboveFloor c v) :
    pulseNumerator c g v' = pulseWidthSpan c - pulseNumerator c g v := by
  have hle := aboveFloor_le c v
  rw [pulseNumerator_eq, pulseNumerator_eq, h]
  split <;> rfl

end

/-- Settles O36: step 6 of R151 is `rdiv`, which rounds to the nearest integer, ties to even. -/
theorem pulseIsNearest : Obligations.PulseIsNearest := by
  intro c f v hc
  obtain ⟨-, hpulse, -⟩ := hc
  have hnear := rdiv_nearest (pulseNumerator c f v * (c.pulseMaxUs.toNat - c.pulseMinUs.toNat))
    (pulseWidthSpan_pos c)
  rw [Nat.cast_mul, Nat.cast_sub hpulse, pulseNumerator_cast, aboveFloor_cast, pulseWidthSpan_cast] at hnear
  exact ⟨_, Nat.cast_add _ _, hnear⟩

/-- Settles O37: the fraction is at most 1, and rounding keeps that. -/
theorem pulseInRange : Obligations.PulseInRange := fun _ f v hc => by
  obtain ⟨-, hpulse, -⟩ := hc
  exact valueToPulse_mem hpulse f v

/-- Settles O38: equal offsets above the floor give equal pulses; an inverted channel mirrors a normal one. -/
theorem pulseProperties : Obligations.PulseProperties := by
  refine fun c f g => ⟨fun v hv => ?_, fun v hv => ?_, fun v hv => ?_, fun hfloor hvmax hf hg => ?_,
    fun hf hg v => ?_⟩
  · exact valueToPulse_of_aboveFloor (aboveFloor_of_nonpos hv)
  · exact valueToPulse_of_aboveFloor ((aboveFloor_of_vmax_le hv).trans (aboveFloor_of_vmax_le le_rfl).symm)
  · exact valueToPulse_of_aboveFloor ((aboveFloor_of_le_floor hv).trans (aboveFloor_of_le_floor le_rfl).symm)
  · have hends : aboveFloor c c.vmax.toNat = pulseWidthSpan c - aboveFloor c 0 := by
      rw [aboveFloor_of_vmax_le le_rfl, aboveFloor_of_le_floor (Int.natCast_nonneg _), pulseWidthSpan, hfloor]
      exact (Nat.max_eq_left hvmax).symm
    exact valueToPulse_congr
      ((pulseNumerator_of_inverted hf hg).trans (pulseNumerator_of_mirrored hends).symm)
  · rw [pulseNumerator_of_inverted hf hg]
    exact Nat.sub_add_cancel (pulseNumerator_le c g v)

/-- The canonical CH_INVERT (00_scope.md R10): finger 4 alone is mounted in reverse. -/
theorem getElem_canonical_chInvert (k : Fin 5) :
    (#v[false, false, false, false, true] : Vector Bool 5)[k] = decide (k = 4) := by
  revert k
  decide

/-- Settles O39: INVERT_ALL inverts fingers 0 to 3 once; finger 4 is inverted twice, which cancels. -/
theorem canonicalInversions : Obligations.CanonicalInversions := by
  intro c f v hvmax hfloor hall hch
  have hvmax9 : c.vmax.toNat = 9 := by rw [hvmax]; rfl
  have hfloor2 : c.floor.toNat = 2 := by rw [hfloor]; rfl
  have hspan : pulseWidthSpan c = 7 := by rw [pulseWidthSpan, hvmax9, hfloor2]; rfl
  have habove := aboveFloor_cast c v
  have hinv : c.chInvert[f] = decide (f = 4) := by rw [hch, getElem_canonical_chInvert]
  refine ⟨hspan, fun hf => ?_, fun hf => ?_⟩
  · rw [pulseNumerator_eq, hall, hinv, if_neg (by simp [hf])]
    omega
  · rw [pulseNumerator_eq, hall, hinv, if_pos (by simp [hf])]
    omega

/-! ### MAPV and MAPI (R155, R156) -/

section
variable {s : State} {i : Instr}

/-- The common end of MAPV and MAPI: PULSE[f] and PULSEV[f] are written, and the answer is the pulse. -/
theorem Completes.mapValue {f : Fin 5} {v : Int} (he : exec i s = .next (s.mapValue f v)) :
    Completes i s (s.storePulse f (BitVec.ofNat 16 (valueToPulse s.cfg f v)))
      [.rsp .ok (BitVec.ofNat 16 (valueToPulse s.cfg f v))] :=
  .of_write he rfl

theorem State.mapv_of_lt {f : Nat} (h : 4 < f) : s.mapv f = s.respond .badChannel 0 := by
  rw [State.mapv, finger?_eq_none h]
  rfl

theorem State.mapv_val (k : Fin 5) :
    s.mapv k.val = if s.valv then s.mapValue k s.val[k].toNat else s.respond .noData 0 := by
  rw [State.mapv, finger?_val]
  rfl

theorem State.mapi_of_lt {f : Nat} (h : 4 < f) (v : Int) : s.mapi f v = s.respond .badChannel 0 := by
  rw [State.mapi, finger?_eq_none h]
  rfl

theorem State.mapi_val (k : Fin 5) (v : Int) : s.mapi k.val v = s.mapValue k v := by
  rw [State.mapi, finger?_val]

end

/-- Settles O40: the finger is checked, then VALV, and then VAL[f] is mapped. -/
theorem mapvStoresPulse : Obligations.MapvStoresPulse := by
  refine fun s f => ⟨fun hf => ?_, fun hf hv => ?_, fun k hv => ?_⟩
  · exact .of_answer (congrArg Host.Outcome.next (State.mapv_of_lt hf))
  · have hno := State.mapv_val (s := s) ⟨f, Nat.lt_succ_of_le hf⟩
    rw [hv] at hno
    exact .of_answer (congrArg Host.Outcome.next hno)
  · have hmap := State.mapv_val (s := s) k
    rw [hv] at hmap
    exact .mapValue (congrArg Host.Outcome.next hmap)

/-- Settles O41: the finger is checked, and then the immediate is mapped. -/
theorem mapiStoresPulse : Obligations.MapiStoresPulse := fun _ _ v =>
  ⟨fun hf => .of_answer (congrArg Host.Outcome.next (State.mapi_of_lt hf v)),
    fun k => .mapValue (congrArg Host.Outcome.next (State.mapi_val k v))⟩

end Sys2Proof.Machine
end

section
/-! PROOFS. The statements of 43_frame.md: the encoded frame and ENC (R172 to R176), the tokens (R177), the
integers (R178), and the verdict of `decode` and DEC (R179 to R189). -/

namespace Sys2Proof.Machine

/-! ### The clamp on parse (R186) -/

section
variable {c : Config}

theorem clampValue_eq_max_min (c : Config) (x : Int) :
    clampValue c x = BitVec.ofInt 8 (max 0 (min x c.vmax.toNat)) := by
  rw [clampValue, clamp_int_eq_max_min (Int.natCast_nonneg _)]

theorem clampValue_of_vmax_le {x : Int} (h : (c.vmax.toNat : Int) ≤ x) : clampValue c x = c.vmax := by
  rw [clampValue_eq_max_min, min_eq_right h, max_eq_right (Int.natCast_nonneg _), BitVec.ofInt_natCast,
    BitVec.ofNat_toNat, BitVec.setWidth_eq]

theorem clampValue_byte (c : Config) (x : Byte) :
    clampValue c (x.toNat : Int) = if x.toNat ≤ c.vmax.toNat then x else c.vmax := by
  split
  · next h => exact clampValue_of_le h
  · next h => exact clampValue_of_vmax_le (by omega)

end

/-- Settles O33: the tokens of an encoded frame are the header and its numbers, and the clamp leaves a number up
to VMAX alone. -/
theorem decodeOfEncodedFrame : Obligations.DecodeOfEncodedFrame := by
  intro c seq r hmax hseq v
  have hdecode (withSeq : Bool) := decodeFrame_encodeFrame withSeq hseq r (Nat.le_trans (by decide) hmax)
  simp only [clampValue_byte] at hdecode
  exact ⟨hdecode true, hdecode false⟩

/-! ### ENC (R172, R173, R175) -/

/-- The frame of five readings, written out (R172). -/
theorem encodeFrame_readings (withSeq : Bool) (seq : Nat) (r : Vector Byte 5) :
    encodeFrame withSeq seq (r.toList.map (·.toNat)) =
      [0x48#8] ++ (if withSeq then 0x2C#8 :: decDigits seq else []) ++
        (0x2C#8 :: decDigits r[0].toNat) ++ (0x2C#8 :: decDigits r[1].toNat) ++
        (0x2C#8 :: decDigits r[2].toNat) ++ (0x2C#8 :: decDigits r[3].toNat) ++
        (0x2C#8 :: decDigits r[4].toNat) := by
  conv_lhs => rw [vector_five_eq r]
  simp [encodeFrame, headerByte, commaByte]

theorem exec_enc_of_readv {s : State} (hr : ∀ i : Fin 5, s.readv[i] = true) (withSeq : Bool) (seq : Nat) :
    let frame := encodeFrame withSeq seq (s.reading.toList.map (·.toNat))
    exec (.enc withSeq seq) s =
      .next (State.respond .ok (BitVec.ofNat 16 frame.length)
        { s with tx := s.tx.writeBytes 0 frame, txlen := BitVec.ofNat 8 frame.length }) :=
  congrArg Host.Outcome.next (if_pos (State.allReadv_eq_true.2 hr))

theorem exec_enc_of_not_readv {s : State} {i : Fin 5} (h : s.readv[i] = false) (withSeq : Bool) (seq : Nat) :
    exec (.enc withSeq seq) s = .next (s.respond .noData 0) :=
  congrArg Host.Outcome.next (if_neg fun hall => by simp [State.allReadv_eq_true.1 hall i] at h)

/-- Settles O27: the frame's bytes are stored from TX 0 up, and every other register is as before. -/
theorem encWritesFrame : Obligations.EncWritesFrame := by
  refine fun s withSeq seq htx _ => ⟨fun hr => ?_, fun ⟨i, hi⟩ => .of_answer (exec_enc_of_not_readv hi _ _)⟩
  intro d frame
  have hframe : encodeFrame withSeq seq (s.reading.toList.map (·.toNat)) = frame :=
    encodeFrame_readings withSeq seq s.reading
  have hexec := exec_enc_of_readv hr withSeq seq
  rw [hframe] at hexec
  obtain ⟨t, hnext, hleaves⟩ := Completes.of_write hexec rfl
  have httx : t.tx = s.tx.writeBytes 0 frame := (congrArg State.tx hleaves.registers :)
  refine ⟨t, hnext, httx ▸ hleaves, fun k hk => ?_, fun k hk => ?_⟩
  · rw [httx, Memory.read_writeBytes htx, dif_pos (by omega)]
    rfl
  · rw [httx, Memory.read_writeBytes htx, dif_neg (by omega)]

/-! ### The length of a frame (R174) -/

theorem decDigits_length_of_le_nine {n : Nat} (h : n ≤ 9) : (decDigits n).length = 1 := by
  rw [decDigits, if_pos (by omega)]
  rfl

/-- The header, and for each number a comma and its digits. -/
theorem length_encodeFrame (withSeq : Bool) (seq a b c d e : Nat) :
    (encodeFrame withSeq seq [a, b, c, d, e]).length =
      6 + (if withSeq then 1 + (decDigits seq).length else 0) + (decDigits a).length + (decDigits b).length +
        (decDigits c).length + (decDigits d).length + (decDigits e).length := by
  cases withSeq <;> simp [encodeFrame] <;> omega

/-- Settles O28: a number has one to three digits, and one up to 9 has one. -/
theorem encodedFrameLength : Obligations.EncodedFrameLength := by
  intro seq a b c d e _ _ _ _ _ _
  have hseq := decDigits_length_mem seq
  have ha := decDigits_length_mem a
  have hb := decDigits_length_mem b
  have hc := decDigits_length_mem c
  have hd := decDigits_length_mem d
  have he := decDigits_length_mem e
  simp only [length_encodeFrame, Bool.false_eq_true, if_false, if_true]
  refine ⟨by omega, by omega, by omega, by omega, fun ha9 hb9 hc9 hd9 he9 => ?_⟩
  rw [decDigits_length_of_le_nine ha9, decDigits_length_of_le_nine hb9, decDigits_length_of_le_nine hc9,
    decDigits_length_of_le_nine hd9, decDigits_length_of_le_nine he9]
  omega

/-! ### Tokens (R177) -/

theorem isDelim_eq_true {b : Byte} : isDelim b = true ↔ b = 0x2C ∨ b = 0x20 := by
  simp [isDelim, commaByte, spaceByte]

theorem isDelim_eq_false {b : Byte} : isDelim b = false ↔ b ≠ 0x2C ∧ b ≠ 0x20 := by
  rw [← Bool.not_eq_true, isDelim_eq_true, not_or]

/-- The end of the bytes ends the run begun. -/
theorem tokensFrom_end {cur : Token} (h : cur ≠ []) : tokensFrom cur [] = [cur] := by
  rw [tokensFrom, if_neg h]

/-- A delimiter ends the run begun. -/
theorem tokensFrom_delim {cur : Token} (h : cur ≠ []) {x : Byte} (hx : isDelim x = true) (bs : List Byte) :
    tokensFrom cur (x :: bs) = cur :: tokens bs := by
  rw [tokensFrom, if_pos hx, if_neg h, tokens]

theorem tokens_delim {x : Byte} (hx : isDelim x = true) (bs : List Byte) : tokens (x :: bs) = tokens bs := by
  rw [tokens, tokensFrom, if_pos hx, if_pos rfl, tokens]

/-- Bytes before the first delimiter are the run begun. -/
theorem tokens_append {t : Token} (ht : ∀ b ∈ t, isDelim b = false) (bs : List Byte) :
    tokens (t ++ bs) = tokensFrom t bs := by
  rw [tokens, tokensFrom_append [] ht, List.nil_append]

/-- A token is a run: the one begun, or one that begins later. -/
theorem run_of_mem_tokensFrom {cur t : Token} {bs : List Byte} (hcur : ∀ b ∈ cur, isDelim b = false)
    (ht : t ∈ tokensFrom cur bs) : t ≠ [] ∧ ∀ b ∈ t, isDelim b = false := by
  induction bs generalizing cur with
  | nil =>
    by_cases hnil : cur = []
    · simp [tokensFrom, hnil] at ht
    · rw [tokensFrom_end hnil, List.mem_singleton] at ht
      exact ht ▸ ⟨hnil, hcur⟩
  | cons x bs ih =>
    by_cases hx : isDelim x = true
    · by_cases hnil : cur = []
      · subst hnil
        rw [tokensFrom, if_pos hx, if_pos rfl] at ht
        exact ih (by simp) ht
      · rw [tokensFrom_delim hnil hx, List.mem_cons] at ht
        rcases ht with rfl | ht
        · exact ⟨hnil, hcur⟩
        · exact ih (by simp) ht
    · rw [tokensFrom, if_neg hx] at ht
      exact ih (List.forall_mem_append.2 ⟨hcur, by simpa using hx⟩) ht

/-- Settles O29: a run lasts until a delimiter or the end, and only a run that holds a byte is a token. -/
theorem tokensAreMaximalRuns : Obligations.TokensAreMaximalRuns := by
  refine ⟨fun b t ht => ?_, rfl, fun x b hx => tokens_delim (isDelim_eq_true.2 hx) b, fun t hne ht => ?_⟩
  · obtain ⟨hne, hrun⟩ := run_of_mem_tokensFrom (by simp) ht
    exact ⟨hne, fun x hx => isDelim_eq_false.1 (hrun x hx)⟩
  · have hrun := tokens_append fun x hx => isDelim_eq_false.2 (ht x hx)
    refine ⟨?_, fun x b hx => ?_⟩
    · rw [← tokensFrom_end hne, ← hrun, List.append_nil]
    · rw [hrun, tokensFrom_delim hne (isDelim_eq_true.2 hx)]

/-! ### Integers (R178) -/

theorem parseDigits_eq_some {t : Token} {n : Nat} :
    parseDigits t = some n ↔ t ≠ [] ∧ (∀ b ∈ t, isDigit b = true) ∧ digitsValue t = n := by
  simp [parseDigits, and_assoc]

theorem parseInt_plus (t : Token) : parseInt (0x2B :: t) = (parseDigits t).map (fun n : Nat => (n : Int)) := by
  rw [parseInt, if_pos rfl]

theorem parseInt_minus (t : Token) : parseInt (0x2D :: t) = (parseDigits t).map (fun n : Nat => -(n : Int)) := by
  rw [parseInt, if_neg (by decide), if_pos rfl]

/-- A token that is parsed is digits, alone or after one sign. -/
theorem digits_of_parseInt {t : Token} {x : Int} (h : parseInt t = some x) :
    ∃ sign ds n, t = sign ++ ds ∧ (sign = [] ∨ sign = [0x2B] ∨ sign = [0x2D]) ∧ parseDigits ds = some n := by
  cases t with
  | nil => cases h
  | cons b t =>
    by_cases hplus : b = 0x2B
    · subst hplus
      rw [parseInt_plus, Option.map_eq_some_iff] at h
      obtain ⟨n, hn, -⟩ := h
      exact ⟨[0x2B], t, n, rfl, .inr (.inl rfl), hn⟩
    · by_cases hminus : b = 0x2D
      · subst hminus
        rw [parseInt_minus, Option.map_eq_some_iff] at h
        obtain ⟨n, hn, -⟩ := h
        exact ⟨[0x2D], t, n, rfl, .inr (.inr rfl), hn⟩
      · rw [parseInt, if_neg hplus, if_neg hminus, Option.map_eq_some_iff] at h
        obtain ⟨n, hn, -⟩ := h
        exact ⟨[], b :: t, n, rfl, .inl rfl, hn⟩

theorem digitsValue_concat (ds : List Byte) (b : Byte) :
    digitsValue (ds ++ [b]) = 10 * digitsValue ds + (b.toNat - 0x30) :=
  List.foldl_append

/-- Settles O30: a sign is parsed to the rest's value or its negative, and digits to theirs. -/
theorem parseIntAcceptsIntegers : Obligations.ParseIntAcceptsIntegers := by
  refine ⟨fun ds hne hds => ?_, fun t x h => ?_, rfl, digitsValue_concat⟩
  · have hdigit : ∀ b ∈ ds, isDigit b = true := fun b hb => isDigit_iff.2 (hds b hb)
    have hparse := parseDigits_eq_some.2 ⟨hne, hdigit, rfl⟩
    refine ⟨parseInt_of_isDigit hne hdigit, ?_, ?_⟩
    · rw [parseInt_plus, hparse, Option.map_some]
    · rw [parseInt_minus, hparse, Option.map_some]
  · obtain ⟨sign, ds, n, ht, hsign, hparse⟩ := digits_of_parseInt h
    obtain ⟨hne, hdigit, -⟩ := parseDigits_eq_some.1 hparse
    exact ⟨sign, ds, ht, hsign, hne, fun b hb => isDigit_iff.1 (hdigit b hb)⟩

/-! ### The checks of `decode` (R180 to R189) -/

section
variable {c : Config} {b : List Byte} {ts : List Token}

theorem decodeFrame_of_lt (h : c.frameMax < b.length) : decodeFrame c b = .reject .tooLong := if_pos h

theorem decodeFrame_of_le (h : b.length ≤ c.frameMax) : decodeFrame c b = decodeTokens c (tokens b) :=
  if_neg (Nat.not_lt.2 h)

theorem decodeTokens_of_badHeader (h : ts.head? ≠ some [0x48]) : decodeTokens c ts = .reject .badHeader := by
  cases ts with
  | nil => rfl
  | cons t ts => exact if_pos fun ht => h (congrArg some ht)

theorem decodeTokens_of_badCount (h5 : ts.length ≠ 5) (h6 : ts.length ≠ 6) :
    decodeTokens c ([0x48] :: ts) = .reject .badCount := by
  rw [decodeTokens, if_neg (by decide), if_pos ⟨h5, h6⟩]

/-- After the header and the count the verdict is the integers' (R183). -/
theorem decodeTokens_of_count (h : ts.length = 5 ∨ ts.length = 6) :
    decodeTokens c ([0x48] :: ts) = ((parseAll ts).map (acceptValues c)).getD (.reject .badToken) := by
  rw [decodeTokens, if_neg (by decide), if_neg (by omega)]
  cases parseAll ts <;> rfl

theorem parseAll_eq_none (h : ∃ t ∈ ts, parseInt t = none) : parseAll ts = none := by
  induction ts with
  | nil => simp at h
  | cons t ts ih =>
    cases hparse : parseInt t with
    | none => simp [parseAll, hparse]
    | some x =>
      have hrest : ∃ t ∈ ts, parseInt t = none := by simpa [hparse] using h
      simp [parseAll, hparse, ih hrest]

theorem parseAll_cons {t : Token} {x : Int} {xs : List Int} (ht : parseInt t = some x)
    (hts : parseAll ts = some xs) : parseAll (t :: ts) = some (x :: xs) := by
  rw [parseAll, ht, hts]
  rfl

/-- The sequence number is taken modulo 256 (R185). -/
theorem ofInt_emod_256 (q : Int) : BitVec.ofInt 8 (q % 256) = BitVec.ofNat 8 (q % 256).toNat := by
  rw [← BitVec.ofInt_natCast, Int.toNat_of_nonneg (Int.emod_nonneg q (by decide))]

end

/-- Settles O31: each check in its turn, and the values of the tokens that pass them all. -/
theorem decodeChecksInOrder : Obligations.DecodeChecksInOrder := by
  refine fun c b => ⟨decodeFrame_of_lt, fun hle => ?_⟩
  rw [decodeFrame_of_le hle]
  refine ⟨decodeTokens_of_badHeader, fun ts hts => ?_, ?_⟩
  · rw [hts]
    refine ⟨decodeTokens_of_badCount, fun hcount hbad => ?_⟩
    rw [decodeTokens_of_count hcount, parseAll_eq_none hbad]
    rfl
  · intro t0 t1 t2 t3 t4 x0 x1 x2 x3 x4 h0 h1 h2 h3 h4 v
    have hfive : parseAll [t0, t1, t2, t3, t4] = some [x0, x1, x2, x3, x4] :=
      parseAll_cons h0 (parseAll_cons h1 (parseAll_cons h2 (parseAll_cons h3 (parseAll_cons h4 rfl))))
    refine ⟨fun hts => ?_, fun tq q hq hts => ?_⟩
    · rw [hts, decodeTokens_of_count (.inl rfl), hfive]
      simp only [Option.map_some, Option.getD_some, acceptValues, clampValue_eq_max_min, v]
    · rw [hts, decodeTokens_of_count (.inr rfl), parseAll_cons hq hfive, ← ofInt_emod_256]
      simp only [Option.map_some, Option.getD_some, acceptValues, clampValue_eq_max_min, v]

/-! ### DEC (R179, R187) -/

section
variable {c : Config} {s : State} {q : Byte} {v : Vector Byte 5}

/-- A frame without a sequence number is accepted with 0 in its place. -/
theorem acceptValues_false {xs : List Int} (h : acceptValues c xs = .accept false q v) : q = 0 := by
  unfold acceptValues at h
  split at h
  · obtain ⟨-, rfl, -⟩ := Verdict.accept.inj h
    rfl
  · cases h
  · cases h

/-- A frame that is accepted passed every check, and the verdict is that on its integers. -/
theorem acceptValues_of_decodeFrame {b : List Byte} {hasSeq : Bool} (h : decodeFrame c b = .accept hasSeq q v) :
    ∃ xs, acceptValues c xs = .accept hasSeq q v := by
  unfold decodeFrame decodeTokens at h
  split at h
  · cases h
  · split at h
    · cases h
    · split at h
      · cases h
      · split at h
        · cases h
        · split at h
          · cases h
          · next xs _ => exact ⟨xs, h⟩

theorem State.rxVerdict_of_lt (h : s.cfg.frameMax < s.rxlen.toNat) : s.rxVerdict = .reject .tooLong := if_pos h

theorem State.rxVerdict_of_le (h : s.rxlen.toNat ≤ s.cfg.frameMax) :
    s.rxVerdict = decodeFrame s.cfg (s.rx.firstBytes s.rxlen.toNat) := if_neg (Nat.not_lt.2 h)

/-- DEC on a rejected frame only answers. -/
theorem Completes.dec_of_reject {st : Status} (h : s.rxVerdict = .reject st) :
    Completes .dec s s [.rsp st 0] := by
  refine .of_answer (congrArg Host.Outcome.next ?_)
  rw [State.dec, h]
  rfl

/-- DEC on an accepted frame stores it and answers the verdict's flag and sequence number. -/
theorem Completes.dec_of_accept {hasSeq : Bool} (h : s.rxVerdict = .accept hasSeq q v) :
    Completes .dec s (s.storeFrame hasSeq q v) [.rsp .ok ((BitVec.ofBool hasSeq ++ q).setWidth 16)] :=
  .of_write (congrArg Host.Outcome.next (State.dec_of_accept h)) rfl

end

/-- Settles O32: DEC's verdict is `decode`'s on RX, and DEC applies it. -/
theorem decAppliesVerdict : Obligations.DecAppliesVerdict := by
  refine fun s => ⟨fun h => .dec_of_reject (State.rxVerdict_of_lt h), fun hle => ?_⟩
  have hverdict := State.rxVerdict_of_le hle
  refine ⟨fun st h => .dec_of_reject (hverdict.trans h), fun seq v h => ?_, fun seq v h => ?_⟩
  · have hanswer : (BitVec.ofBool true ++ seq).setWidth 16 = BitVec.ofNat 16 (256 + seq.toNat) := by
      rw [Nat.add_comm 256]
      exact State.regValue_seq (s.storeFrame true seq v)
    exact hanswer ▸ .dec_of_accept (hverdict.trans h)
  · obtain ⟨xs, hxs⟩ := acceptValues_of_decodeFrame h
    obtain rfl := acceptValues_false hxs
    exact .dec_of_accept (hverdict.trans h)

end Sys2Proof.Machine
end

section
/-! PROOFS. The statements of 44_pwm.md: the prescaler (R201, R202), PWMINIT (R203 to R209), the off-count (R211),
PWMSET and PWMSETR (R210 to R217), and which events commands add (R205, R212, R219). -/

namespace Sys2Proof.Machine

/-! ### Prescaler (R201, R202) -/

/-- Settles O42: the quotient is `rdiv`, which rounds to the nearest integer, ties to even. -/
theorem prescaleValue : Obligations.PrescaleValue := by
  refine fun c hz hhz => ⟨?_, fun hosc => by rw [calcPrescale, hosc]; rfl⟩
  obtain ⟨hlower, hupper, htie⟩ := rdiv_nearest c.oscHz (b := 4096 * hz) (by omega)
  push_cast at hlower hupper htie
  exact ⟨_, hlower, hupper, htie, clamp_int_eq_max_min (by decide)⟩

/-! ### The bus steps of PWMINIT (R204, R207) -/

section
variable (p : Byte) (s : State)

/-- The bus step after the first `n`, made in `t`: B1 reads MODE1, and B2 to B5 write what follows from the byte
read, which is the first answer after `s`. B5 comes after a wait. -/
def State.initStep (t : State) : Nat → State
  | 0 => (t.busRead s.cfg.regMode1).2
  | 1 => (t.busWrite s.cfg.regMode1 [mode1AsleepByte s.cfg (s.replyAt 0).rdata]).2
  | 2 => (t.busWrite s.cfg.regPrescale [p]).2
  | 3 => (t.busWrite s.cfg.regMode1 [mode1AwakeByte s.cfg (s.replyAt 0).rdata]).2
  | _ => ((t.waitCycles s.cfg.oscStabCycles).busWrite s.cfg.regMode1 [mode1RunByte s.cfg (s.replyAt 0).rdata]).2

/-- The state after the first `n` bus steps of PWMINIT, all made. -/
def State.afterInit : Nat → State
  | 0 => s
  | n + 1 => s.initStep p (State.afterInit n) n

/-- The events of the bus step after the first `n`, with its answer. -/
def State.initEvents : Nat → List Event
  | 0 => [.busRead s.cfg.devAddr s.cfg.regMode1
      (if (s.replyAt 0).ok then some (s.replyAt 0).rdata else none)]
  | 1 => [.busWrite s.cfg.devAddr s.cfg.regMode1 [mode1AsleepByte s.cfg (s.replyAt 0).rdata] (s.replyAt 1).ok]
  | 2 => [.busWrite s.cfg.devAddr s.cfg.regPrescale [p] (s.replyAt 2).ok]
  | 3 => [.busWrite s.cfg.devAddr s.cfg.regMode1 [mode1AwakeByte s.cfg (s.replyAt 0).rdata] (s.replyAt 3).ok]
  | _ => [.wait s.cfg.oscStabCycles,
      .busWrite s.cfg.devAddr s.cfg.regMode1 [mode1RunByte s.cfg (s.replyAt 0).rdata] (s.replyAt 4).ok]

/-- The events of the first `n` bus steps. -/
def State.initTrace : Nat → List Event
  | 0 => []
  | n + 1 => State.initTrace n ++ s.initEvents p n

theorem State.still_initStep (t : State) (n : Nat) : (s.initStep p t n).still = t.still := by
  unfold State.initStep
  split <;> rfl

theorem State.replyAt_initStep (t : State) (n k : Nat) : (s.initStep p t n).replyAt k = t.replyAt (k + 1) := by
  unfold State.initStep
  split <;> simp

theorem State.still_afterInit (n : Nat) : (s.afterInit p n).still = s.still := by
  induction n with
  | zero => rfl
  | succ n ih => rw [State.afterInit, State.still_initStep, ih]

theorem State.afterInit_cfg (n : Nat) : (s.afterInit p n).cfg = s.cfg :=
  (congrArg State.cfg (s.still_afterInit p n) :)

/-- Each bus step uses up one answer. -/
theorem State.replyAt_afterInit (n k : Nat) : (s.afterInit p n).replyAt k = s.replyAt (k + n) := by
  induction n generalizing k with
  | zero => rfl
  | succ n ih => rw [State.afterInit, State.replyAt_initStep, ih, Nat.add_right_comm, Nat.add_assoc]

/-- A bus write is recorded with the coming answer. -/
theorem Grows.busWrite_of_reply {s : State} {ok : Bool} (reg : Byte) (bs : List Byte)
    (h : (s.replyAt 0).ok = ok) :
    Grows s (s.busWrite reg bs).2 [.busWrite s.cfg.devAddr reg bs ok] := by
  rw [← h, ← s.busReply_eq_replyAt]
  exact .busWrite s reg bs

/-- A bus write with the answer that the coming ones hold for it. -/
theorem State.busWrite_afterInit (n : Nat) (reg : Byte) (bs : List Byte) :
    (s.afterInit p n).busWrite reg bs = ((s.replyAt n).ok, ((s.afterInit p n).busWrite reg bs).2) :=
  State.busWrite_of_reply reg bs (by rw [s.replyAt_afterInit, Nat.zero_add])

theorem Grows.busWrite_afterInit (n : Nat) (reg : Byte) (bs : List Byte) :
    Grows (s.afterInit p n) ((s.afterInit p n).busWrite reg bs).2
      [.busWrite s.cfg.devAddr reg bs (s.replyAt n).ok] := by
  rw [← s.afterInit_cfg p n]
  exact .busWrite_of_reply reg bs (by rw [s.replyAt_afterInit, Nat.zero_add])

theorem Grows.afterInit_succ {n : Nat} (hn : n < 5) :
    Grows (s.afterInit p n) (s.afterInit p (n + 1)) (s.initEvents p n) := by
  match n with
  | 0 =>
    rw [State.initEvents.eq_def, ← s.busReply_eq_replyAt]
    exact .busRead s _
  | 1 | 2 | 3 => exact .busWrite_afterInit p s _ _ _
  | 4 =>
    have hwrite := Grows.busWrite_of_reply (s := (s.afterInit p 4).waitCycles s.cfg.oscStabCycles) s.cfg.regMode1
      [mode1RunByte s.cfg (s.replyAt 0).rdata] (by rw [State.replyAt_waitCycles, s.replyAt_afterInit])
    rw [State.waitCycles_cfg, s.afterInit_cfg] at hwrite
    exact (Grows.waitCycles _ _).trans hwrite

/-- How many of PWMINIT's bus steps are answered OK before one that is answered FAIL, if there is one. -/
def State.initFailure : Option Nat := (List.range 5).find? fun k => !(s.replyAt k).ok

/-- PWMINIT's bus steps are made up to the first that fails (R207). -/
theorem State.initSteps_eq : s.initSteps p =
    match s.initFailure with
    | some n => (some (n + 1), s.afterInit p (n + 1))
    | none => (none, s.afterInit p 5) := by
  have hcfg := s.afterInit_cfg p
  have hread : s.busRead s.cfg.regMode1 =
      (if (s.replyAt 0).ok then some (s.replyAt 0).rdata else none, s.afterInit p 1) := by
    rw [← s.busReply_eq_replyAt]
    rfl
  have hwrite1 : (s.afterInit p 1).busWrite _ _ = (_, s.afterInit p 2) := s.busWrite_afterInit p 1 _ _
  have hwrite2 : (s.afterInit p 2).busWrite _ _ = (_, s.afterInit p 3) := s.busWrite_afterInit p 2 _ _
  have hwrite3 : (s.afterInit p 3).busWrite _ _ = (_, s.afterInit p 4) := s.busWrite_afterInit p 3 _ _
  have hwrite4 : ((s.afterInit p 4).waitCycles _).busWrite _ _ = (_, s.afterInit p 5) :=
    State.busWrite_of_reply _ _ (by rw [State.replyAt_waitCycles, s.replyAt_afterInit])
  have hrange : List.range 5 = [0, 1, 2, 3, 4] := rfl
  simp only [State.initSteps, State.initFailure, hrange, List.find?_cons, List.find?_nil, hread]
  cases (s.replyAt 0).ok
  · rfl
  simp only [if_true, hcfg, hwrite1]
  cases (s.replyAt 1).ok
  · rfl
  simp only [hcfg, hwrite2]
  cases (s.replyAt 2).ok
  · rfl
  simp only [hcfg, hwrite3]
  cases (s.replyAt 3).ok
  · rfl
  simp only [hcfg, hwrite4]
  cases (s.replyAt 4).ok <;> rfl

theorem Grows.afterInit {n : Nat} (hn : n ≤ 5) : Grows s (s.afterInit p n) (s.initTrace p n) := by
  induction n with
  | zero => exact .of_env rfl rfl
  | succ n ih => exact (ih (Nat.le_of_succ_le hn)).trans (.afterInit_succ p s hn)

end

/-! ### PWMINIT (R203, R206 to R209) -/

section
variable {s : State} {hz : Nat}

theorem Completes.pwminit_of_phase (h : s.phase ≠ .uninit) : Completes (.pwminit hz) s s [.rsp .badPhase 0] :=
  .of_answer (congrArg Host.Outcome.next (if_pos h))

theorem Completes.pwminit_zero (h : s.phase = .uninit) : Completes (.pwminit 0) s s [.rsp .badOperand 0] :=
  .of_answer (congrArg Host.Outcome.next (if_neg (not_not.2 h)))

/-- In UNINIT, PWMINIT of a frequency is its bus steps and what follows from them. -/
theorem State.pwminit_of_uninit (h : s.phase = .uninit) (hhz : hz ≠ 0) : s.pwminit hz =
    match s.initSteps (prescaleByte s.cfg hz) with
    | (some step, t) => State.respond .busFail (BitVec.ofNat 16 step) { t with phase := .dead }
    | (none, t) => State.respond .ok ((prescaleByte s.cfg hz).setWidth 16)
        { t with freq := BitVec.ofNat 16 hz, phase := .ready } := by
  rw [State.pwminit, if_neg (not_not.2 h), if_neg hhz]
  rfl

theorem Completes.pwminit_of_ok (h : s.phase = .uninit) (hhz : hz ≠ 0) (hok : s.initFailure = none) :
    Completes (.pwminit hz) s { s with freq := BitVec.ofNat 16 hz, phase := .ready }
      (s.initTrace (prescaleByte s.cfg hz) 5 ++ [.rsp .ok ((prescaleByte s.cfg hz).setWidth 16)]) := by
  have hrun := s.pwminit_of_uninit h hhz
  rw [State.initSteps_eq, hok] at hrun
  have hstill := s.still_afterInit (prescaleByte s.cfg hz) 5
  exact .of_grows (congrArg Host.Outcome.next hrun) ((Grows.afterInit _ s le_rfl).congr rfl rfl rfl rfl)
    (congrArg (fun t : State => { t with freq := BitVec.ofNat 16 hz, phase := .ready }) hstill) rfl

theorem Completes.pwminit_of_fail {n : Nat} (h : s.phase = .uninit) (hhz : hz ≠ 0)
    (hfail : s.initFailure = some n) :
    Completes (.pwminit hz) s { s with phase := .dead }
      (s.initTrace (prescaleByte s.cfg hz) (n + 1) ++ [.rsp .busFail (BitVec.ofNat 16 (n + 1))]) := by
  have hrun := s.pwminit_of_uninit h hhz
  rw [State.initSteps_eq, hfail] at hrun
  have hn : n < 5 := List.mem_range.1 (List.mem_of_find?_eq_some hfail)
  have hstill := s.still_afterInit (prescaleByte s.cfg hz) (n + 1)
  exact .of_grows (congrArg Host.Outcome.next hrun) ((Grows.afterInit _ s hn).congr rfl rfl rfl rfl)
    (congrArg (fun t : State => { t with phase := .dead }) hstill) rfl

end

/-- Settles O45: the phase is checked, then the operand, before anything else. -/
theorem pwminitRefused : Obligations.PwminitRefused := fun _ _ => ⟨.pwminit_of_phase, .pwminit_zero⟩

/-- Settles O43: no step fails, so all five are made. -/
theorem pwminitSucceeds : Obligations.PwminitSucceeds := by
  intro s hz hphase hhz _ hok
  have hnone : s.initFailure = none :=
    List.find?_range_eq_none.2 fun k hk => by rw [hok k hk]; rfl
  have h := Completes.pwminit_of_ok hphase (Nat.ne_of_gt hhz) hnone
  rw [← BitVec.ofNat_toNat] at h
  simp only [State.initTrace, State.initEvents, hok, Nat.reduceLT, if_true] at h
  exact h

/-- Settles O44: the steps before the failing one are made, and none after it. -/
theorem pwminitFailsAtStep : Obligations.PwminitFailsAtStep := by
  intro s hz n hphase hhz _ hn hok hfail
  have hsome : s.initFailure = some n :=
    List.find?_range_eq_some.2 ⟨by rw [hfail]; rfl, List.mem_range.2 hn,
      fun k hk => by rw [hok k hk]; rfl⟩
  have h := Completes.pwminit_of_fail hphase (Nat.ne_of_gt hhz) hsome
  interval_cases n <;>
    simp only [State.initTrace, State.initEvents, hok, hfail, Nat.reduceLT, if_true] at h <;>
    exact h

/-! ### The off-count (R211) -/

section
variable {c : Config} {freq us : Nat}

/-- The count before it is saturated at 4095: `rdiv` of the clamped pulse. -/
theorem offCount_eq (hc : c.Valid) : offCount c freq us =
    min 4095 (rdiv (max c.drvMinUs.toNat (min us c.drvMaxUs.toNat) * freq * 4096) 1000000) := by
  obtain ⟨-, -, hdrv, -⟩ := hc
  rw [offCount, clamp_nat_eq_min_max hdrv, max_comm, max_min_distrib_left, max_eq_right hdrv]

end

/-- Settles O46: `rdiv` rounds to the nearest integer, keeps order, and is exact at a product of 1000000. -/
theorem offCountValue : Obligations.OffCountValue := by
  intro c freq us hc u
  have hpos : 0 < 1000000 := by decide
  have hoff : offCount c freq us = min 4095 (rdiv (u * freq * 4096) 1000000) := offCount_eq hc
  obtain ⟨hlower, hupper, -⟩ := rdiv_nearest (u * freq * 4096) hpos
  refine ⟨Nat.min_le_left _ _, ⟨_, hlower, hupper, by rw [hoff, Nat.cast_min]; rfl⟩, fun hfull => ?_,
    fun us' hus => ?_⟩
  · have hsat : 4096 ≤ rdiv (u * freq * 4096) 1000000 :=
      calc 4096 = rdiv (4096 * 1000000) 1000000 := (rdiv_mul_self hpos 4096).symm
        _ ≤ _ := rdiv_mono hpos (by omega)
    rw [hoff]
    omega
  · have hu : u ≤ max c.drvMinUs.toNat (min us' c.drvMaxUs.toNat) := max_le_max_left _ (min_le_min_right _ hus)
    rw [hoff, offCount_eq hc]
    exact min_le_min_left _ (rdiv_mono hpos (by gcongr))

/-! ### PWMSET and PWMSETR (R210 to R217) -/

section
variable {s : State} {i : Instr} {k : Fin 16} {us : Nat}

/-- The event of a burst that is answered `ok`, with its register and bytes written out. -/
theorem burst_eq (c : Config) (k : Fin 16) (off : BitVec 12) (ok : Bool) :
    Event.busWrite c.devAddr (channelReg c k) (burstBytes off) ok =
      .busWrite c.devAddr (c.regChBase + BitVec.ofNat 8 (4 * k.val))
        [0, 0, BitVec.ofNat 8 (off.toNat % 256), BitVec.ofNat 8 (off.toNat / 256)] ok := by
  rw [burstBytes_eq, channelReg]

/-- A command that sends a pulse while FREQ = 0 only answers. -/
theorem Completes.setPulse_skipped (he : exec i s = .next (s.setPulse k.val us).finish) (hf : s.freq = 0) :
    Completes i s s [.rsp .skipped 0] := by
  rw [s.setPulse_skipped k us hf] at he
  exact .of_answer he

/-- A command that sends a pulse, when the burst is answered OK. -/
theorem Completes.setPulse_ok (he : exec i s = .next (s.setPulse k.val us).finish) (hf : s.freq ≠ 0)
    (hr : (s.replyAt 0).ok = true) :
    Completes i s (s.storeDuty k (s.offOf us))
      [.busWrite s.cfg.devAddr (channelReg s.cfg k) (burstBytes (s.offOf us)) true,
        .rsp .ok (BitVec.ofNat 16 (s.offOf us).toNat)] := by
  rw [s.setPulse_ok k us hf hr] at he
  rw [BitVec.ofNat_toNat]
  exact .of_grows he ((Grows.busWrite_of_reply _ _ hr).congr rfl rfl rfl rfl) rfl rfl

/-- A command that sends a pulse, when the burst is answered FAIL. -/
theorem Completes.setPulse_fail (he : exec i s = .next (s.setPulse k.val us).finish) (hf : s.freq ≠ 0)
    (hr : (s.replyAt 0).ok = false) :
    Completes i s s
      [.busWrite s.cfg.devAddr (channelReg s.cfg k) (burstBytes (s.offOf us)) false,
        .rsp .busFail (BitVec.ofNat 16 (s.offOf us).toNat)] := by
  rw [s.setPulse_busFail k us hf hr] at he
  rw [BitVec.ofNat_toNat]
  exact .of_grows he (.busWrite_of_reply _ _ hr) rfl rfl

theorem State.pwmset_of_lt {c : Nat} (h : 15 < c) : s.pwmset c us = s.respond .badChannel 0 := by
  rw [State.pwmset, s.setPulse_badChannel us h]
  rfl

theorem State.pwmsetr_of_lt {f : Nat} (h : 4 < f) : s.pwmsetr f = s.respond .badChannel 0 := by
  rw [State.pwmsetr, finger?_eq_none h]
  rfl

theorem State.pwmsetr_val (g : Fin 5) : s.pwmsetr g.val =
    if s.pulsev[g] then (s.setPulse s.cfg.servoCh[g].val s.pulse[g].toNat).finish else s.respond .noData 0 := by
  rw [State.pwmsetr, finger?_val]
  rfl

end

/-- Settles O48: `set_pulse` checks the channel and FREQ, and then sends the burst. -/
theorem pwmsetWritesBurst : Obligations.PwmsetWritesBurst := by
  intro s c us
  simp only [← burst_eq, s.busReply_eq_replyAt]
  refine ⟨fun hc => .of_answer (congrArg Host.Outcome.next (State.pwmset_of_lt hc)),
    fun hc hf => .setPulse_skipped (k := ⟨c, Nat.lt_succ_of_le hc⟩) rfl hf,
    fun k hf => ⟨fun hr => .setPulse_ok rfl hf hr, fun hr => .setPulse_fail rfl hf hr⟩⟩

/-- Settles O49: the finger is checked, then its valid flag, and then `set_pulse` sends its pulse. -/
theorem pwmsetrSendsStoredPulse : Obligations.PwmsetrSendsStoredPulse := by
  intro s f
  simp only [← burst_eq, s.busReply_eq_replyAt]
  refine ⟨fun hf => .of_answer (congrArg Host.Outcome.next (State.pwmsetr_of_lt hf)), fun g => ?_⟩
  have hexec : exec (.pwmsetr g.val) s = .next _ := congrArg Host.Outcome.next (State.pwmsetr_val g)
  refine ⟨fun hv => ?_, fun hv hf => ?_, fun hv hf hr => ?_, fun hv hf hr => ?_⟩
  · exact .of_answer (by rw [hexec, hv]; rfl)
  · rw [if_pos hv] at hexec
    exact .setPulse_skipped hexec hf
  · rw [if_pos hv] at hexec
    exact .setPulse_ok hexec hf hr
  · rw [if_pos hv] at hexec
    exact .setPulse_fail hexec hf hr

/-! ### The events a command adds (R205, R212, R219) -/

/-- The events the command `i`, started in `s`, may add. -/
inductive CommandEvent (i : Instr) (s : State) : Event → Prop where
  | response (st : Status) (d : Word16) : CommandEvent i s (.rsp st d)
  /-- What ACQ does at the mux and the converter (41_acquisition.md R133). -/
  | acquire {e : Event} (hi : i = .acq) (hbus : e.isBus = false) : CommandEvent i s e
  /-- The bus steps of PWMINIT and its wait (R204, R208). -/
  | init {e : Event} {hz : Nat} (hi : i = .pwminit hz) (hphase : s.phase = .uninit)
    (hburst : e.isBurst = false) : CommandEvent i s e
  /-- The burst of `set_pulse` (R212, R213, R215). -/
  | burst (k : Fin 16) (off : BitVec 12) (ok : Bool) (hfreq : s.freq ≠ 0) :
    CommandEvent i s (.busWrite s.cfg.devAddr (channelReg s.cfg k) (burstBytes off) ok)

/-- From `s` to `t` the events grew by some that the command `i`, started in `s₀`, may add. -/
def AddsEvents (i : Instr) (s₀ s t : State) : Prop :=
  ∃ evs, t.events = s.events ++ evs ∧ ∀ e ∈ evs, CommandEvent i s₀ e

section
variable {i : Instr} {s₀ s t u : State}

theorem AddsEvents.of_env (h : t.env = s.env) : AddsEvents i s₀ s t :=
  ⟨[], by simp [State.events, h], by simp⟩

theorem AddsEvents.of_grows {evs : List Event} (h : Grows s t evs)
    (hevs : ∀ e ∈ evs, CommandEvent i s₀ e) : AddsEvents i s₀ s t :=
  ⟨evs, h.events, hevs⟩

theorem AddsEvents.of_completes {r : State} {evs : List Event} (h : Completes i s r evs)
    (hexec : exec i s = .next t) (hevs : ∀ e ∈ evs, CommandEvent i s₀ e) : AddsEvents i s₀ s t := by
  obtain ⟨t', hexec', hleaves⟩ := h
  obtain rfl := Host.Outcome.next.inj (hexec'.symm.trans hexec)
  exact ⟨evs, hleaves.events, hevs⟩

theorem AddsEvents.trans (h : AddsEvents i s₀ s t) (h' : AddsEvents i s₀ t u) : AddsEvents i s₀ s u := by
  obtain ⟨evs, he, hn⟩ := h
  obtain ⟨evs', he', hn'⟩ := h'
  exact ⟨evs ++ evs', by rw [he', he, List.append_assoc], List.forall_mem_append.2 ⟨hn, hn'⟩⟩

theorem AddsEvents.respond (h : AddsEvents i s₀ s u) (st : Status) (d : Word16) :
    AddsEvents i s₀ s (u.respond st d) :=
  h.trans ⟨[.rsp st d], (Leaves.respond u st d).events, by simpa using .response st d⟩

/-- A command that writes registers alone, or nothing, before its response. -/
theorem AddsEvents.registers {st : Status} {d : Word16} (h : u.env = s.env) : AddsEvents i s₀ s (u.respond st d) :=
  .respond (.of_env h) st d

/-- `set_pulse` adds at most a burst, and that only while FREQ is not 0. -/
theorem AddsEvents.setPulse (c us : Nat) (hcfg : s.cfg = s₀.cfg) (hfreq : s.freq = s₀.freq) :
    AddsEvents i s₀ s (s.setPulse c us).state := by
  rcases Nat.lt_or_ge 15 c with hc | hc
  · rw [s.setPulse_badChannel us hc]
    exact .of_env rfl
  obtain ⟨k, rfl⟩ : ∃ k : Fin 16, k.val = c := ⟨⟨c, Nat.lt_succ_of_le hc⟩, rfl⟩
  by_cases hf : s.freq = 0
  · rw [s.setPulse_skipped k us hf]
    exact .of_env rfl
  have hburst : AddsEvents i s₀ s (s.busWrite (channelReg s.cfg k) (burstBytes (s.offOf us))).2 := by
    refine .of_grows (Grows.busWrite s _ _) (List.forall_mem_singleton.2 ?_)
    rw [hcfg]
    exact .burst k _ _ (hfreq ▸ hf)
  cases hr : (s.replyAt 0).ok with
  | false =>
    rw [s.setPulse_busFail k us hf hr]
    exact hburst
  | true =>
    rw [s.setPulse_ok k us hf hr]
    exact hburst.trans (.of_env rfl)

/-- The turns of APPLY write neither the configuration nor FREQ, so the next turn sends as the first. -/
theorem AddsEvents.fingers (fs : List (Fin 5)) (a : ApplyProgress) (hcfg : a.state.cfg = s₀.cfg)
    (hfreq : a.state.freq = s₀.freq) : AddsEvents i s₀ a.state (fs.foldl ApplyProgress.finger a).state := by
  induction fs generalizing a with
  | nil => exact .of_env rfl
  | cons f fs ih =>
    have hturn : AddsEvents i s₀ a.state (a.finger f).state :=
      (AddsEvents.of_env rfl).trans (.setPulse _ _ hcfg hfreq)
    have hwrites := CommandWrites.finger a f
    have hcfg' := hwrites.eq_of_keeps CommandWrite.keeps_cfg
    have hfreq' := congrArg Prod.fst (hwrites.eq_of_keeps (CommandWrite.keeps_phase (by simp)))
    exact hturn.trans (ih _ (hcfg'.trans hcfg) (hfreq'.trans hfreq))

theorem AddsEvents.acqChannels (settle lo hi : Nat) (chs : List (Fin 5)) (s : State) :
    AddsEvents .acq s₀ s (chs.foldl (State.acqChannel settle lo hi) s) := by
  induction chs generalizing s with
  | nil => exact .of_env rfl
  | cons ch chs ih =>
    refine (AddsEvents.of_grows (Grows.acqChannel settle lo hi s ch) fun e he => .acquire rfl ?_).trans (ih _)
    simp only [List.mem_cons, List.not_mem_nil, or_false] at he
    obtain rfl | rfl | rfl := he <;> rfl

theorem Event.isBurst_of_not_isBus {e : Event} (h : e.isBus = false) : e.isBurst = false := by
  cases e with
  | busWrite => cases h
  | _ => rfl

/-- B2 to B5 write one byte each (R204). -/
theorem State.isBurst_of_mem_initEvents {p : Byte} {n : Nat} : ∀ e ∈ s.initEvents p n, e.isBurst = false := by
  unfold State.initEvents
  split <;> simp [Event.isBurst]

theorem State.isBurst_of_mem_initTrace {p : Byte} {n : Nat} : ∀ e ∈ s.initTrace p n, e.isBurst = false := by
  induction n with
  | zero => nofun
  | succ n ih => exact List.forall_mem_append.2 ⟨ih, State.isBurst_of_mem_initEvents⟩

theorem AddsEvents.pwminit {hz : Nat} (h : exec (.pwminit hz) s = .next t) : AddsEvents (.pwminit hz) s s t := by
  have hrsp (st : Status) (d : Word16) : ∀ e ∈ [Event.rsp st d], CommandEvent (.pwminit hz) s e :=
    List.forall_mem_singleton.2 (.response st d)
  by_cases hphase : s.phase = .uninit
  · have hsteps (n : Nat) (st : Status) (d : Word16) :
        ∀ e ∈ s.initTrace (prescaleByte s.cfg hz) n ++ [.rsp st d], CommandEvent (.pwminit hz) s e :=
      List.forall_mem_append.2
        ⟨fun e he => .init rfl hphase (State.isBurst_of_mem_initTrace e he), hrsp st d⟩
    rcases eq_or_ne hz 0 with rfl | hhz
    · exact .of_completes (.pwminit_zero hphase) h (hrsp _ _)
    · cases hfail : s.initFailure with
      | none => exact .of_completes (.pwminit_of_ok hphase hhz hfail) h (hsteps _ _ _)
      | some n => exact .of_completes (.pwminit_of_fail hphase hhz hfail) h (hsteps _ _ _)
  · exact .of_completes (.pwminit_of_phase hphase) h (hrsp _ _)

theorem AddsEvents.pulseFinish {r : PulseResult} (h : AddsEvents i s₀ s r.state) :
    AddsEvents i s₀ s r.finish := by
  unfold PulseResult.finish
  split <;> exact .respond h _ _

theorem AddsEvents.pwmsetr (f : Nat) (s : State) : AddsEvents i s s (s.pwmsetr f) := by
  unfold State.pwmsetr
  split
  · exact .registers rfl
  · split
    · exact .pulseFinish (.setPulse _ _ rfl rfl)
    · exact .registers rfl

theorem AddsEvents.apply (s : State) : AddsEvents i s s s.apply := by
  unfold State.apply
  split
  · exact .registers rfl
  · next hasSeq q v _ =>
    have hfingers : AddsEvents i s s (s.storeFrame hasSeq q v).applyFingers.state :=
      (AddsEvents.of_env rfl).trans (.fingers _ ⟨0, false, s.storeFrame hasSeq q v⟩ rfl rfl)
    unfold ApplyProgress.finish
    split
    · exact .respond hfingers _ _
    · split <;> exact .respond hfingers _ _

theorem AddsEvents.rdreg (a : Nat) (s : State) : AddsEvents i s₀ s (s.rdreg a) := by
  unfold State.rdreg
  split
  · exact .registers rfl
  · split <;> exact .registers rfl

theorem AddsEvents.wrreg (a imm : Nat) (s : State) : AddsEvents i s₀ s (s.wrreg a imm) := by
  unfold State.wrreg
  split
  · exact .registers rfl
  · next r _ =>
    split
    · exact .registers rfl
    · split
      · exact .registers rfl
      · exact .registers (s.writeReg_env r imm)

theorem AddsEvents.mapv (f : Nat) (s : State) : AddsEvents i s₀ s (s.mapv f) := by
  unfold State.mapv
  split
  · exact .registers rfl
  · split <;> exact .registers rfl

/-- Every event a command adds is one of its own (30_encoding.md R86). -/
theorem exec_addsEvents (h : exec i s = .next t) : AddsEvents i s s t := by
  cases i
  case pwminit hz => exact .pwminit h
  all_goals injection h with h; subst h
  case nop => exact .registers rfl
  case rdreg a => exact .rdreg a s
  case wrreg a imm => exact .wrreg a imm s
  case rxwr a b =>
    unfold State.rxwr
    split <;> exact .registers rfl
  case txrd a =>
    unfold State.txrd
    split <;> exact .registers rfl
  case tack => exact .registers rfl
  case acq => exact .respond (.acqChannels _ _ _ _ s) _ _
  case enc w q =>
    unfold State.enc
    split <;> exact .registers rfl
  case dec =>
    unfold State.dec
    split <;> exact .registers rfl
  case mapv f => exact .mapv f s
  case mapi f v =>
    unfold State.mapi
    split <;> exact .registers rfl
  case pwmset c us => exact .pulseFinish (.setPulse c us rfl rfl)
  case pwmsetr f => exact .pwmsetr f s
  case apply => exact .apply s

end

/-- Settles O55: PWMINIT writes one byte at a time, and every burst is sent with FREQ not 0. -/
theorem noBurstWithoutFrequency : Obligations.NoBurstWithoutFrequency := by
  intro i s t hfreq h
  obtain ⟨evs, hevents, hevs⟩ := exec_addsEvents h
  refine ⟨evs, hevents, List.all_eq_true.2 fun e he => ?_⟩
  cases hevs e he with
  | response => rfl
  | acquire _ hbus => rw [Event.isBurst_of_not_isBus hbus]; rfl
  | init _ _ hburst => rw [hburst]; rfl
  | burst _ _ _ hfreq' => exact absurd hfreq hfreq'

/-- Settles O56: only `set_pulse` is left of what goes to the bus. -/
theorem onlyBurstsAfterInit : Obligations.OnlyBurstsAfterInit := by
  intro i s t hphase h
  obtain ⟨evs, hevents, hevs⟩ := exec_addsEvents h
  refine ⟨evs, hevents, fun e he hbus => ?_⟩
  cases hevs e he with
  | response => cases hbus
  | acquire _ hquiet => exact absurd hquiet (by simp [hbus])
  | init _ hphase' => exact absurd hphase' hphase
  | burst k off ok => exact ⟨k, off, ok, rfl⟩

/-- Settles O57: responses and bursts are all that the other commands add. -/
theorem noWaitOnHotPath : Obligations.NoWaitOnHotPath := by
  intro i s t hacq hinit h
  obtain ⟨evs, hevents, hevs⟩ := exec_addsEvents h
  refine ⟨evs, hevents, List.all_eq_true.2 fun e he => ?_⟩
  cases hevs e he with
  | response => rfl
  | acquire hi => exact absurd hi hacq
  | init hi => exact absurd hi (hinit _)
  | burst => rfl

end Sys2Proof.Machine
end

section
/-! PROOFS. The statements of 45_pipeline.md: what APPLY leaves of a rejected and of an accepted frame (R241 to
R243), and that it does what DEC and then MAPV and PWMSETR for every finger do (R244). -/

namespace Sys2Proof.Machine

section
variable {s : State} {hasSeq : Bool} {q : Byte} {v : Vector Byte 5} {st : Status}

/-! ### Stage 1: the verdict (R241) -/

theorem State.apply_of_reject (h : s.rxVerdict = .reject st) : s.apply = s.respond st 0 := by
  rw [State.apply, h]
  rfl

theorem State.apply_of_accept (h : s.rxVerdict = .accept hasSeq q v) :
    s.apply = (s.storeFrame hasSeq q v).applyFingers.finish := by
  rw [State.apply, h]

theorem Completes.apply_of_reject (h : s.rxVerdict = .reject st) : Completes .apply s s [.rsp st 0] :=
  .of_answer (congrArg Host.Outcome.next (State.apply_of_reject h))

end

/-- Settles O50: each verdict that rejects the frame ends APPLY before anything is written. -/
theorem applyRejectChangesNothing : Obligations.ApplyRejectChangesNothing := fun _ =>
  ⟨fun h => .apply_of_reject (State.rxVerdict_of_lt h),
    fun hle _ h => .apply_of_reject ((State.rxVerdict_of_le hle).trans h)⟩

/-! ### The writes of stage 2 -/

/-- PULSE and PULSEV once every finger is mapped, finger f to `p f`. -/
def State.storePulses (p : Fin 5 → Word16) (s : State) : State :=
  { s with pulse := #v[p 0, p 1, p 2, p 3, p 4], pulsev := #v[true, true, true, true, true] }

/-- DUTY[c] and its flag are written if the burst is answered OK (44_pwm.md R215). -/
def State.storeDutyIf (ok : Bool) (c : Fin 16) (off : BitVec 12) (s : State) : State :=
  if ok then s.storeDuty c off else s

section
variable (s : State) (ok : Bool) (c : Fin 16) (off : BitVec 12)

/-- Five pulses stored one after another leave nothing of what stood in PULSE and PULSEV. -/
theorem State.storePulse_five (p : Fin 5 → Word16) :
    ((((s.storePulse 0 (p 0)).storePulse 1 (p 1)).storePulse 2 (p 2)).storePulse 3 (p 3)).storePulse 4 (p 4) =
      s.storePulses p := by
  rw [State.storePulses, ← set_all_five s.pulse, ← set_all_five s.pulsev]
  rfl

@[simp] theorem State.storeDutyIf_cfg : (s.storeDutyIf ok c off).cfg = s.cfg := by cases ok <;> rfl
@[simp] theorem State.storeDutyIf_freq : (s.storeDutyIf ok c off).freq = s.freq := by cases ok <;> rfl
@[simp] theorem State.storeDutyIf_val : (s.storeDutyIf ok c off).val = s.val := by cases ok <;> rfl
@[simp] theorem State.storeDutyIf_seq : (s.storeDutyIf ok c off).seq = s.seq := by cases ok <;> rfl
@[simp] theorem State.storeDutyIf_tick : (s.storeDutyIf ok c off).tick = s.tick := by cases ok <;> rfl
@[simp] theorem State.storeDutyIf_env : (s.storeDutyIf ok c off).env = s.env := by cases ok <;> rfl

@[simp] theorem State.replyAt_storeDutyIf (k : Nat) : (s.storeDutyIf ok c off).replyAt k = s.replyAt k := by
  cases ok <;> rfl

@[simp] theorem State.still_storeDutyIf :
    (s.storeDutyIf ok c off).still = s.still.storeDutyIf ok c off := by
  cases ok <;> rfl

theorem State.storeDutyIf_storePulse (f : Fin 5) (p : Word16) :
    (s.storePulse f p).storeDutyIf ok c off = (s.storeDutyIf ok c off).storePulse f p := by
  cases ok <;> rfl

theorem State.storeDutyIf_storeFrame (hasSeq : Bool) (q : Byte) (v : Vector Byte 5) :
    (s.storeFrame hasSeq q v).storeDutyIf ok c off = (s.storeDutyIf ok c off).storeFrame hasSeq q v := by
  cases ok <;> rfl

/-- `set_pulse` with FREQ not 0, whatever the burst is answered. -/
theorem State.setPulse_of_freq (us : Nat) (h : s.freq ≠ 0) : s.setPulse c.val us =
    ⟨if (s.replyAt 0).ok then .ok else .busFail, s.offOf us,
      (s.busWrite (channelReg s.cfg c) (burstBytes (s.offOf us))).2.storeDutyIf (s.replyAt 0).ok c
        (s.offOf us)⟩ := by
  cases hr : (s.replyAt 0).ok with
  | false => exact s.setPulse_busFail c us h hr
  | true => exact s.setPulse_ok c us h hr

end

/-! ### One turn of stage 2 (R241) -/

/-- The pulse of finger `f`. -/
def State.fingerPulse (s : State) (f : Fin 5) : Nat := valueToPulse s.cfg f s.val[f].toNat

/-- The count of finger `f`. -/
def State.fingerOff (s : State) (f : Fin 5) : BitVec 12 := s.offOf (s.fingerPulse f)

/-- The burst of finger `f` with its answer, when stage 2 starts in `s`: it is the transaction number `f`. -/
def State.fingerBurst (s : State) (f : Fin 5) : Event :=
  .busWrite s.cfg.devAddr (channelReg s.cfg s.cfg.servoCh[f]) (burstBytes (s.fingerOff f)) (s.replyAt f.val).ok

/-- DUTY of finger `f` is written if its burst is answered OK, when stage 2 starts in `s`. -/
def State.fingerDuty (s u : State) (f : Fin 5) : State :=
  u.storeDutyIf (s.replyAt f.val).ok s.cfg.servoCh[f] (s.fingerOff f)

/-- What the turn of finger `f` writes, when stage 2 starts in `s`. -/
def State.fingerWrite (s u : State) (f : Fin 5) : State :=
  s.fingerDuty (u.storePulse f (BitVec.ofNat 16 (s.fingerPulse f))) f

/-- The mask of failed fingers after the turn of finger `f`, which is answered `ok f`. -/
def markFailed (ok : Fin 5 → Bool) (fail : BitVec 5) (f : Fin 5) : BitVec 5 :=
  if ok f then fail else fail ||| (1#5 <<< f.val)

/-- A turn with FREQ = 0: the pulse is stored, and the burst is skipped. -/
theorem ApplyProgress.finger_of_skipped (a : ApplyProgress) (f : Fin 5) (h : a.state.freq = 0) :
    a.finger f = ⟨a.fail, true, a.state.storePulse f (BitVec.ofNat 16 (a.state.fingerPulse f))⟩ := by
  simp [ApplyProgress.finger, State.fingerPulse, State.setPulse_skipped, h]

/-- A turn with FREQ not 0: the pulse is stored, and the burst is sent with the coming answer. -/
theorem ApplyProgress.finger_of_freq (a : ApplyProgress) (f : Fin 5) (h : a.state.freq ≠ 0) : a.finger f =
    ⟨if (a.state.replyAt 0).ok then a.fail else a.fail ||| (1#5 <<< f.val), a.skip,
      ((a.state.storePulse f (BitVec.ofNat 16 (a.state.fingerPulse f))).busWrite
        (channelReg a.state.cfg a.state.cfg.servoCh[f]) (burstBytes (a.state.fingerOff f))).2.storeDutyIf
        (a.state.replyAt 0).ok a.state.cfg.servoCh[f] (a.state.fingerOff f)⟩ := by
  have hset := (a.state.storePulse f (BitVec.ofNat 16 (a.state.fingerPulse f))).setPulse_of_freq
    a.state.cfg.servoCh[f] (a.state.fingerPulse f) h
  rw [State.replyAt_storePulse] at hset
  unfold ApplyProgress.finger
  dsimp only
  rw [← State.fingerPulse, hset]
  cases (a.state.replyAt 0).ok <;> simp [State.fingerOff, State.offOf]

/-- `a` is where stage 2, started in `s` with FREQ not 0, stands after the fingers `fs`. -/
structure AfterFingers (s : State) (fs : List (Fin 5)) (a : ApplyProgress) : Prop where
  grows : Grows s a.state (fs.map s.fingerBurst)
  still : a.state.still = fs.foldl s.fingerWrite s.still
  cfg : a.state.cfg = s.cfg
  freq : a.state.freq = s.freq
  val : a.state.val = s.val
  replies : ∀ k, a.state.replyAt k = s.replyAt (k + fs.length)
  fail : a.fail = fs.foldl (markFailed fun f => (s.replyAt f.val).ok) 0
  skip : a.skip = false

theorem AfterFingers.nil (s : State) : AfterFingers s [] ⟨0, false, s⟩ :=
  ⟨.of_env rfl rfl, rfl, rfl, rfl, rfl, fun _ => rfl, rfl, rfl⟩

/-- The next turn: the fingers come in order, so finger f is answered by the f-th of the coming answers. -/
theorem AfterFingers.concat {s : State} {fs : List (Fin 5)} {a : ApplyProgress} (h : AfterFingers s fs a)
    (hfreq : s.freq ≠ 0) (f : Fin 5) (hf : f.val = fs.length) : AfterFingers s (fs ++ [f]) (a.finger f) := by
  have hreply : a.state.replyAt 0 = s.replyAt f.val := by rw [h.replies, Nat.zero_add, hf]
  have hpulse : a.state.fingerPulse f = s.fingerPulse f := by
    rw [State.fingerPulse, State.fingerPulse, h.cfg, h.val]
  have hoff : a.state.fingerOff f = s.fingerOff f := by
    rw [State.fingerOff, State.fingerOff, hpulse, State.offOf, State.offOf, h.cfg, h.freq]
  have hburst := Grows.busWrite_of_reply (channelReg s.cfg s.cfg.servoCh[f]) (burstBytes (s.fingerOff f))
    (congrArg BusReply.ok hreply)
  rw [h.cfg] at hburst
  rw [a.finger_of_freq f (by rwa [h.freq]), hreply, hpulse, hoff, h.cfg]
  refine ⟨?_, ?_, by simp [h.cfg], by simp [h.freq], by simp [h.val], fun k => ?_, ?_, h.skip⟩
  · rw [List.map_append]
    exact h.grows.trans (hburst.congr rfl rfl (State.storeDutyIf_env _ _ _ _) (State.storeDutyIf_tick _ _ _ _))
  · rw [List.foldl_append, ← h.still, State.still_storeDutyIf]
    rfl
  · simp [h.replies, Nat.add_assoc, Nat.add_comm 1]
  · rw [List.foldl_append, ← h.fail]
    rfl

/-- Stage 2 with FREQ not 0. -/
theorem AfterFingers.applyFingers {s : State} (hfreq : s.freq ≠ 0) :
    AfterFingers s [0, 1, 2, 3, 4] s.applyFingers := by
  have h1 := (AfterFingers.nil s).concat hfreq 0 rfl
  have h2 := h1.concat hfreq 1 rfl
  have h3 := h2.concat hfreq 2 rfl
  have h4 := h3.concat hfreq 3 rfl
  rw [State.applyFingers]
  simp only [List.foldl_cons, List.foldl_nil]
  exact h4.concat hfreq 4 rfl

/-! ### The end of APPLY (R241, R242) -/

theorem ApplyProgress.finish_of_not_skip {a : ApplyProgress} (h : a.skip = false) : a.finish =
    if a.fail.toNat = 0 then a.state.respond .ok 0 else a.state.respond .busFail (BitVec.ofNat 16 a.fail.toNat) := by
  have hzero : a.fail = 0 ↔ a.fail.toNat = 0 := BitVec.toNat_inj.symm
  simp only [ApplyProgress.finish, ne_eq, ite_not, hzero, h, BitVec.ofNat_toNat]
  rfl

/-- The mask of failed fingers as a number: each counts its own power of two. -/
theorem toNat_markFailed (ok : Fin 5 → Bool) :
    (([0, 1, 2, 3, 4] : List (Fin 5)).foldl (markFailed ok) 0).toNat =
      (if ok 0 then 0 else 2 ^ 0) + (if ok 1 then 0 else 2 ^ 1) + (if ok 2 then 0 else 2 ^ 2) +
        (if ok 3 then 0 else 2 ^ 3) + (if ok 4 then 0 else 2 ^ 4) := by
  simp only [List.foldl_cons, List.foldl_nil, markFailed]
  generalize ok 0 = b0, ok 1 = b1, ok 2 = b2, ok 3 = b3, ok 4 = b4
  revert b0 b1 b2 b3 b4
  decide

section
variable (s : State)

/-- What stage 2, started in `s`, writes into `u`: the DUTY of the answered bursts, and all five PULSE. -/
def State.fingerWrites (u : State) : State :=
  (([0, 1, 2, 3, 4] : List (Fin 5)).foldl s.fingerDuty u).storePulses fun f => BitVec.ofNat 16 (s.fingerPulse f)

/-- The turns' writes, sorted by what they write. -/
theorem State.foldl_fingerWrite (u : State) :
    ([0, 1, 2, 3, 4] : List (Fin 5)).foldl s.fingerWrite u = s.fingerWrites u := by
  rw [State.fingerWrites, ← State.storePulse_five]
  simp only [List.foldl_cons, List.foldl_nil, State.fingerWrite, State.fingerDuty, State.storeDutyIf_storePulse]

theorem State.still_fingerWrites (u : State) : (s.fingerWrites u).still = s.fingerWrites u.still := by
  simp only [← State.foldl_fingerWrite, List.foldl_cons, List.foldl_nil, State.fingerWrite,
    State.fingerDuty, State.still_storeDutyIf, State.still_storePulse]

theorem State.tick_fingerWrites (u : State) : (s.fingerWrites u).tick = u.tick := by
  simp [← State.foldl_fingerWrite, State.fingerWrite, State.fingerDuty]

theorem State.seq_foldl_fingerDuty (u : State) :
    (([0, 1, 2, 3, 4] : List (Fin 5)).foldl s.fingerDuty u).seq = u.seq := by
  simp [State.fingerDuty]

theorem State.fingerWrites_storeFrame (u : State) (hasSeq : Bool) (q : Byte) (v : Vector Byte 5) :
    s.fingerWrites (u.storeFrame hasSeq q v) = (s.fingerWrites u).storeFrame hasSeq q v := by
  simp only [State.fingerWrites, List.foldl_cons, List.foldl_nil, State.fingerDuty, State.storeDutyIf_storeFrame]
  rfl

/-- Stage 2 with FREQ not 0, and the response, in which `mask` names the failed fingers. -/
theorem Leaves.applyFingers {s : State} (hfreq : s.freq ≠ 0) {mask : Nat}
    (hmask : (([0, 1, 2, 3, 4] : List (Fin 5)).foldl (markFailed fun f => (s.replyAt f.val).ok) 0).toNat = mask) :
    Leaves s (s.fingerWrites s) s.applyFingers.finish
      (([0, 1, 2, 3, 4] : List (Fin 5)).map s.fingerBurst ++
        [if mask = 0 then .rsp .ok 0 else .rsp .busFail (BitVec.ofNat 16 mask)]) := by
  have h := AfterFingers.applyFingers hfreq
  rw [← h.fail] at hmask
  have hend (st : Status) (d : Word16) := Leaves.of_grows h.grows
    (h.still.trans ((s.foldl_fingerWrite _).trans (s.still_fingerWrites s).symm)) (s.tick_fingerWrites s) st d
  rw [ApplyProgress.finish_of_not_skip h.skip, hmask]
  split <;> exact hend _ _

end

/-- Settles O51: five turns, whatever the bursts are answered; a channel's DUTY is that of the last answered. -/
theorem applyWritesFiveFingers : Obligations.ApplyWritesFiveFingers := by
  intro s hasSeq seq v _ hle hfreq haccept ok p k off burst bit mask write
  have hverdict := (State.rxVerdict_of_le hle).trans haccept
  have hwrite : write = (s.storeFrame hasSeq seq v).fingerDuty := rfl
  have hburst (f : Fin 5) : burst f = (s.storeFrame hasSeq seq v).fingerBurst f := (burst_eq _ _ _ _).symm
  have hmask : _ = mask := toNat_markFailed fun f => ((s.storeFrame hasSeq seq v).replyAt f.val).ok
  have hleaves := (Leaves.applyFingers (s := s.storeFrame hasSeq seq v) hfreq hmask).congr_start (s' := s) rfl
  rw [State.fingerWrites_storeFrame, State.fingerWrites] at hleaves
  have hseq := (s.storeFrame hasSeq seq v).seq_foldl_fingerDuty s
  refine ⟨_, congrArg Host.Outcome.next (State.apply_of_accept hverdict), ?_⟩
  rw [hwrite, hburst, hburst, hburst, hburst, hburst]
  generalize List.foldl _ _ _ = u at hseq hleaves ⊢
  rw [← hseq]
  exact hleaves

/-! ### FREQ = 0 (R243) -/

/-- Stage 2 with FREQ = 0: no turn writes FREQ, so every burst is skipped. -/
theorem State.applyFingers_of_skipped {s : State} (h : s.freq = 0) :
    s.applyFingers = ⟨0, true, s.storePulses fun f => BitVec.ofNat 16 (s.fingerPulse f)⟩ := by
  rw [State.applyFingers, ← State.storePulse_five]
  simp [ApplyProgress.finger_of_skipped, h, State.fingerPulse]

/-- Settles O52: the frame and the pulses are written, and then the response is all that happens. -/
theorem applySkipsWithoutFrequency : Obligations.ApplySkipsWithoutFrequency := by
  intro s hasSeq seq v hle hfreq haccept p
  have hverdict := (State.rxVerdict_of_le hle).trans haccept
  have happly := State.apply_of_accept hverdict
  rw [State.applyFingers_of_skipped (s := s.storeFrame hasSeq seq v) hfreq] at happly
  exact .of_write (congrArg Host.Outcome.next happly) rfl

/-! ### The responses of DEC (R179, R187) -/

/-- No check of `decode` rejects with OK. -/
theorem State.rxVerdict_ne_reject_ok (s : State) : s.rxVerdict ≠ .reject .ok := by
  unfold State.rxVerdict decodeFrame decodeTokens acceptValues
  repeat' split
  all_goals simp

theorem State.response_respond (s : State) (st : Status) (d : Word16) : (s.respond st d).response = some (st, d) := by
  rw [State.response, (Leaves.respond s st d).events, List.getLast?_concat]

theorem State.busTrace_respond (s : State) (st : Status) (d : Word16) : (s.respond st d).busTrace = s.busTrace := by
  simp [State.busTrace, (Leaves.respond s st d).events, Event.isBus]

/-! ### APPLY and the commands it stands for (R244) -/

/-- Two states alike in registers, memories, flags, bus transactions and the bus answers to come: what differs
is TICK, BUSY and the responses given. -/
structure SameBus (s t : State) : Prop where
  still : s.still = t.still
  busTrace : s.busTrace = t.busTrace
  busReplies : s.env.busReplies = t.env.busReplies
  drawn : s.env.drawn = t.env.drawn

section
variable {s t : State}

theorem SameBus.refl (s : State) : SameBus s s := ⟨rfl, rfl, rfl, rfl⟩

/-- What is read from a state without TICK, BUSY and the outside world is the same in both. -/
theorem SameBus.congr {α : Type} (h : SameBus s t) (r : State → α) (hr : ∀ u, r u.still = r u) : r s = r t := by
  rw [← hr s, h.still, hr]

/-- A response given on one side alone. -/
theorem SameBus.respond_right (h : SameBus s t) (st : Status) (d : Word16) : SameBus s (t.respond st d) :=
  ⟨h.still, h.busTrace.trans (t.busTrace_respond st d).symm, h.busReplies, h.drawn⟩

theorem SameBus.respond_left (h : SameBus s t) (st : Status) (d : Word16) : SameBus (s.respond st d) t :=
  ⟨h.still, (s.busTrace_respond st d).trans h.busTrace, h.busReplies, h.drawn⟩

theorem SameBus.storePulse (h : SameBus s t) (f : Fin 5) (p : Word16) :
    SameBus (s.storePulse f p) (t.storePulse f p) :=
  ⟨congrArg (State.storePulse f p) h.still, h.busTrace, h.busReplies, h.drawn⟩

theorem SameBus.storeDuty (h : SameBus s t) (c : Fin 16) (off : BitVec 12) :
    SameBus (s.storeDuty c off) (t.storeDuty c off) :=
  ⟨congrArg (State.storeDuty c off) h.still, h.busTrace, h.busReplies, h.drawn⟩

theorem SameBus.busWrite (h : SameBus s t) (reg : Byte) (bs : List Byte) :
    SameBus (s.busWrite reg bs).2 (t.busWrite reg bs).2 where
  still := h.still
  busTrace := by
    have hreply : s.env.busReply = t.env.busReply := by rw [Env.busReply, Env.busReply, h.busReplies, h.drawn]
    have hcfg := h.congr State.cfg fun _ => rfl
    simp only [State.busTrace, (Grows.busWrite _ reg bs).events, List.filter_append, State.busWrite_fst, hreply, hcfg]
    exact congrArg (· ++ _) h.busTrace
  busReplies := congrArg List.tail h.busReplies
  drawn := congrArg (· + 1) h.drawn

theorem SameBus.setPulse (h : SameBus s t) (c us : Nat) :
    SameBus (s.setPulse c us).state (t.setPulse c us).state := by
  have hcfg := h.congr State.cfg fun _ => rfl
  have hfreq := h.congr State.freq fun _ => rfl
  have hreply := State.replyAt_congr h.busReplies.symm h.drawn.symm 0
  rcases Nat.lt_or_ge 15 c with hc | hc
  · rw [s.setPulse_badChannel us hc, t.setPulse_badChannel us hc]
    exact h
  obtain ⟨k, rfl⟩ : ∃ k : Fin 16, k.val = c := ⟨⟨c, Nat.lt_succ_of_le hc⟩, rfl⟩
  by_cases hf : t.freq = 0
  · rw [s.setPulse_skipped k us (hfreq.trans hf), t.setPulse_skipped k us hf]
    exact h
  · rw [s.setPulse_of_freq k us (hfreq ▸ hf), t.setPulse_of_freq k us hf, State.offOf, hcfg, hfreq, hreply]
    dsimp only
    cases (s.replyAt 0).ok with
    | false => exact h.busWrite _ _
    | true => exact (h.busWrite _ _).storeDuty _ _

theorem ApplyProgress.finish_eq_respond (a : ApplyProgress) : ∃ st d, a.finish = a.state.respond st d := by
  unfold ApplyProgress.finish
  split
  · exact ⟨_, _, rfl⟩
  · split <;> exact ⟨_, _, rfl⟩

theorem PulseResult.finish_eq (r : PulseResult) : r.finish = r.state.respond r.status (r.off.setWidth 16) := by
  unfold PulseResult.finish
  split
  · next h => rw [h]; rfl
  · rfl

end

/-- Between the fingers: APPLY's stage 2 at `a`, the commands at `t`, and VAL valid for MAPV. -/
structure ApplyProgress.Follows (a : ApplyProgress) (t : State) : Prop where
  same : SameBus a.state t
  valid : t.cfg.Valid
  valv : t.valv = true

/-- The commands that do what one turn of stage 2 does. -/
def fingerCommands (f : Fin 5) : List Instr := [.mapv f.val, .pwmsetr f.val]

section
variable {a : ApplyProgress} {t : State}

/-- MAPV leaves the finger's pulse in PULSE[f], whole, and PWMSETR sends it. -/
theorem execAll_fingerCommands (f : Fin 5) (hv : t.valv = true) (hc : t.cfg.Valid) :
    execAll (fingerCommands f) t =
      .next ((t.mapValue f t.val[f].toNat).setPulse t.cfg.servoCh[f].val (t.fingerPulse f)).finish := by
  obtain ⟨-, hpulse, -⟩ := hc
  have hmap : t.mapv f.val = t.mapValue f t.val[f].toNat := (State.mapv_val f).trans (if_pos hv)
  have hfit : (BitVec.ofNat 16 (t.fingerPulse f)).toNat = t.fingerPulse f := toNat_ofNat_valueToPulse hpulse f _
  have hstored : (t.mapValue f t.val[f].toNat).pulse[f] = BitVec.ofNat 16 (t.fingerPulse f) :=
    Vector.getElem_set_self f.isLt
  have hvalid : (t.mapValue f t.val[f].toNat).pulsev[f] = true := Vector.getElem_set_self f.isLt
  have hsend : (t.mapValue f t.val[f].toNat).pwmsetr f.val =
      ((t.mapValue f t.val[f].toNat).setPulse t.cfg.servoCh[f].val (t.fingerPulse f)).finish := by
    rw [State.pwmsetr_val, if_pos hvalid, hstored, hfit]
    rfl
  exact congrArg Host.Outcome.next ((congrArg (State.pwmsetr f.val) hmap).trans hsend)

theorem ApplyProgress.Follows.finger (h : a.Follows t) (f : Fin 5) :
    ∃ u, execAll (fingerCommands f) t = .next u ∧ (a.finger f).Follows u := by
  have hcfg := h.same.congr State.cfg fun _ => rfl
  have hval := h.same.congr State.val fun _ => rfl
  have hsame : SameBus (a.state.storePulse f (BitVec.ofNat 16 (t.fingerPulse f))) (t.mapValue f t.val[f].toNat) :=
    (h.same.storePulse f _).respond_right _ _
  have hwrites : CommandWrites (.pwmsetr f.val) (t.mapValue f t.val[f].toNat)
      ((t.mapValue f t.val[f].toNat).setPulse t.cfg.servoCh[f].val (t.fingerPulse f)).finish :=
    .pulseFinish (.setPulse (.inr (.inl ⟨_, rfl⟩)) _ _ _)
  refine ⟨_, execAll_fingerCommands f h.valv h.valid, ?_, ?_, ?_⟩
  · rw [PulseResult.finish_eq, ApplyProgress.finger, hcfg, hval]
    exact (hsame.setPulse _ _).respond_right _ _
  · rw [hwrites.eq_of_keeps CommandWrite.keeps_cfg]
    exact h.valid
  · exact hwrites.invariant (P := fun u => u.valv = true) (fun hw => hw.flagsKept.valv) h.valv

theorem ApplyProgress.Follows.fingers (h : a.Follows t) (fs : List (Fin 5)) :
    ∃ u, execAll (fs.flatMap fingerCommands) t = .next u ∧ SameBus (fs.foldl ApplyProgress.finger a).state u := by
  induction fs generalizing a t with
  | nil => exact ⟨t, rfl, h.same⟩
  | cons f fs ih =>
    obtain ⟨u, hu, hturn⟩ := h.finger f
    obtain ⟨w, hw, hsame⟩ := ih hturn
    exact ⟨w, (execAll_append hu).trans hw, hsame⟩

end

/-- Settles O53: TICK and the responses between the commands are all that tells the two apart. -/
theorem applyEqualsCommandSequence : Obligations.ApplyEqualsCommandSequence := by
  intro s d st x hc hdec hrsp
  obtain rfl : s.dec = d := Host.Outcome.next.inj hdec
  cases hverdict : s.rxVerdict with
  | reject st' =>
    have hd : s.dec = s.respond st' 0 := by
      rw [State.dec, hverdict]
      rfl
    rw [hd, State.response_respond] at hrsp
    obtain ⟨rfl, -⟩ := Prod.mk.inj (Option.some.inj hrsp)
    refine ⟨fun hok => ?_, fun _ => ?_⟩
    · exact absurd (hok ▸ hverdict) s.rxVerdict_ne_reject_ok
    · exact congrArg Host.Outcome.next ((State.apply_of_reject hverdict).trans hd.symm)
  | accept hasSeq q v =>
    have hd := State.dec_of_accept hverdict
    rw [hd, State.response_respond] at hrsp
    obtain ⟨rfl, -⟩ := Prod.mk.inj (Option.some.inj hrsp)
    refine ⟨fun _ => ?_, fun hne => absurd rfl hne⟩
    have hstart : ApplyProgress.Follows ⟨0, false, s.storeFrame hasSeq q v⟩ s.dec :=
      ⟨hd ▸ (SameBus.refl _).respond_right _ _, hd ▸ hc, hd ▸ rfl⟩
    obtain ⟨b, hb, hsame⟩ := hstart.fingers [0, 1, 2, 3, 4]
    obtain ⟨st, x, hfinish⟩ := (s.storeFrame hasSeq q v).applyFingers.finish_eq_respond
    rw [← State.applyFingers] at hsame
    have hend := hsame.respond_left st x
    refine ⟨_, b, congrArg Host.Outcome.next ((State.apply_of_accept hverdict).trans hfinish), hb, ?_⟩
    exact ⟨hend.still, hend.busTrace, hend.busReplies⟩

end Sys2Proof.Machine
end

section
/-! PROOFS. The statement of 60_exceptions.md: ticks change no command (R253, R262). Leaving the ticks out of a
state commutes with every command but the two that read TICK. -/

namespace Sys2Proof.Machine

/-! ### A state without its ticks -/

/-- The state with TICK at 0, no tick to come and none among the events: what ticks cannot change. -/
def State.untick (s : State) : State :=
  { s with tick := false, env := { s.env with ticks := [], trace := s.events } }

section
variable (s : State)

/-- The ticks left out are none of what `still` keeps, and none of the events of commands. -/
theorem State.still_untick : s.untick.still = s.still := rfl
theorem State.trace_untick : s.untick.env.trace = s.events := rfl

/-- Another TICK and another schedule of ticks are left out alike. -/
theorem State.untick_of_ticks (tk : Bool) (ticks : List Nat) :
    State.untick { s with tick := tk, env := { s.env with ticks := ticks } } = s.untick := rfl

theorem State.untick_ite {c : Prop} [Decidable c] {t t' u u' : State} (ht : t.untick = t') (hu : u.untick = u') :
    (if c then t else u).untick = if c then t' else u' := by
  rw [apply_ite State.untick, ht, hu]

/-- An event without the ticks that arrive before it. -/
theorem State.untick_emit {ev : Event} (h : ev.isTick = false) : (s.emit ev).untick = s.untick.emit ev := by
  obtain ⟨new, htrace, hnew⟩ := s.env.trace_record h
  have hevents : (s.emit ev).events = s.events ++ [ev] := by
    rw [State.events, State.emit_env, htrace, List.filter_append, hnew, State.events]
  rw [State.untick, hevents]
  simp [State.untick, State.emit, Env.record, Env.ticksNow]

theorem State.untick_respond (st : Status) (d : Word16) : (s.respond st d).untick = s.untick.respond st d :=
  congrArg (fun u : State => { u with busy := false }) (s.untick_emit rfl)

theorem State.untick_select (v : BitVec 3) : (s.select v).untick = s.untick.select v :=
  State.untick_emit _ rfl

theorem State.untick_waitCycles (n : Nat) : (s.waitCycles n).untick = s.untick.waitCycles n :=
  State.untick_emit _ rfl

theorem State.untick_sample : s.sample.2.untick = s.untick.sample.2 := State.untick_emit _ rfl

theorem State.untick_busRead (reg : Byte) : (s.busRead reg).2.untick = (s.untick.busRead reg).2 :=
  State.untick_emit _ rfl

theorem State.untick_busWrite (reg : Byte) (bs : List Byte) :
    (s.busWrite reg bs).2.untick = (s.untick.busWrite reg bs).2 :=
  State.untick_emit _ rfl

/-! ### Host access (40_host_access.md R112 to R115) -/

/-- TICK is the one register that ticks change and RDREG reads. -/
theorem State.regValue_untick {r : Reg} (hr : r ≠ .tick) : s.untick.regValue r = s.regValue r := by
  cases r with
  | tick => exact absurd rfl hr
  | _ => rfl

theorem State.untick_rdreg {a : Nat} (ha : a ≠ 0x09) : (s.rdreg a).untick = s.untick.rdreg a := by
  unfold State.rdreg
  split
  · exact s.untick_respond _ _
  · next r hindex =>
    have hr : r ≠ .tick := fun h => ha (by rw [← Reg.index_of_ofIndex hindex, h]; rfl)
    rw [s.regValue_untick hr]
    exact State.untick_ite (s.untick_respond _ _) (s.untick_respond _ _)

theorem State.untick_writeReg (r : Reg) (imm : Nat) : (s.writeReg r imm).untick = s.untick.writeReg r imm := by
  cases r <;> rfl

theorem State.untick_wrreg (a imm : Nat) : (s.wrreg a imm).untick = s.untick.wrreg a imm := by
  unfold State.wrreg
  split
  · exact s.untick_respond _ _
  · next r _ =>
    rw [← s.untick_writeReg]
    exact State.untick_ite (s.untick_respond _ _)
      (State.untick_ite (s.untick_respond _ _) (State.untick_respond _ _ _))

theorem State.untick_rxwr (a byte : Nat) : (s.rxwr a byte).untick = s.untick.rxwr a byte :=
  State.untick_ite (s.untick_respond _ _) (State.untick_respond { s with rx := _ } _ _)

theorem State.untick_txrd (a : Nat) : (s.txrd a).untick = s.untick.txrd a :=
  State.untick_ite (s.untick_respond _ _) (s.untick_respond _ _)

/-! ### Acquisition (41_acquisition.md R133) -/

theorem State.untick_acqChannel (settle lo hi : Nat) (ch : Fin 5) :
    (s.acqChannel settle lo hi ch).untick = s.untick.acqChannel settle lo hi ch := by
  have hsample : ((s.select (BitVec.ofNat 3 ch.val)).waitCycles settle).sample.2.untick =
      ((s.untick.select (BitVec.ofNat 3 ch.val)).waitCycles settle).sample.2 := by
    rw [State.untick_sample, State.untick_waitCycles, State.untick_select]
  exact congrArg (State.storeReading ch _) hsample

theorem State.untick_acq : s.acq.untick = s.untick.acq := by
  have hchannels := List.foldl_hom State.untick (l := ([0, 1, 2, 3, 4] : List (Fin 5))) (init := s)
    fun u ch => (u.untick_acqChannel s.settle.toNat s.rawMin.toNat s.rawMax.toNat ch).symm
  exact (State.untick_respond _ _ _).trans (congrArg (State.respond .ok 0) hchannels.symm)

/-! ### Frames (43_frame.md R173, R179) -/

theorem State.untick_enc (withSeq : Bool) (seq : Nat) : (s.enc withSeq seq).untick = s.untick.enc withSeq seq :=
  State.untick_ite (State.untick_respond { s with tx := _, txlen := _ } _ _) (s.untick_respond _ _)

theorem State.rxVerdict_untick : s.untick.rxVerdict = s.rxVerdict := rfl

theorem State.untick_dec : s.dec.untick = s.untick.dec := by
  unfold State.dec
  rw [s.rxVerdict_untick]
  split
  · exact s.untick_respond _ _
  · exact State.untick_respond (s.storeFrame _ _ _) _ _

/-! ### Mapping (42_mapping.md R155, R156) -/

theorem State.untick_mapValue (f : Fin 5) (v : Int) : (s.mapValue f v).untick = s.untick.mapValue f v :=
  State.untick_respond (s.storePulse f _) _ _

theorem State.untick_mapv (f : Nat) : (s.mapv f).untick = s.untick.mapv f := by
  unfold State.mapv
  split
  · exact s.untick_respond _ _
  · exact State.untick_ite (s.untick_mapValue _ _) (s.untick_respond _ _)

theorem State.untick_mapi (f : Nat) (v : Int) : (s.mapi f v).untick = s.untick.mapi f v := by
  unfold State.mapi
  split
  · exact s.untick_respond _ _
  · exact s.untick_mapValue _ _

/-! ### PWM (44_pwm.md R203, R204, R215 to R217) -/

theorem State.cfg_untick : s.untick.cfg = s.cfg := rfl
theorem State.freq_untick : s.untick.freq = s.freq := rfl
theorem State.replyAt_untick (k : Nat) : s.untick.replyAt k = s.replyAt k := rfl

theorem State.untick_initStep (p : Byte) (t : State) (n : Nat) :
    (s.initStep p t n).untick = s.untick.initStep p t.untick n := by
  unfold State.initStep
  split
  · exact t.untick_busRead _
  · exact t.untick_busWrite _ _
  · exact t.untick_busWrite _ _
  · exact t.untick_busWrite _ _
  · rw [State.untick_busWrite, State.untick_waitCycles]
    rfl

theorem State.untick_afterInit (p : Byte) (n : Nat) : (s.afterInit p n).untick = s.untick.afterInit p n := by
  induction n with
  | zero => rfl
  | succ n ih => rw [State.afterInit, State.untick_initStep, ih, State.afterInit]

/-- The bus steps of PWMINIT fail at the same place, if at all. -/
theorem State.initSteps_untick (p : Byte) :
    s.untick.initSteps p = ((s.initSteps p).1, (s.initSteps p).2.untick) := by
  have hfailure : s.untick.initFailure = s.initFailure := rfl
  rw [State.initSteps_eq, State.initSteps_eq, hfailure]
  cases s.initFailure <;> exact congrArg (Prod.mk _) (s.untick_afterInit p _).symm

theorem State.untick_pwminit (hz : Nat) : (s.pwminit hz).untick = s.untick.pwminit hz := by
  unfold State.pwminit
  refine State.untick_ite (s.untick_respond _ _) (State.untick_ite (s.untick_respond _ _) ?_)
  dsimp only
  rw [s.cfg_untick, s.initSteps_untick]
  obtain ⟨failed, t⟩ := s.initSteps (prescaleByte s.cfg hz)
  cases failed with
  | some step => exact State.untick_respond { t with phase := .dead } _ _
  | none => exact State.untick_respond { t with freq := _, phase := .ready } _ _

theorem State.untick_storeDutyIf (ok : Bool) (c : Fin 16) (off : BitVec 12) :
    (s.storeDutyIf ok c off).untick = s.untick.storeDutyIf ok c off := by
  cases ok <;> rfl

/-- The result of `set_pulse` with the ticks left out of its state. -/
def PulseResult.untick (r : PulseResult) : PulseResult := { r with state := r.state.untick }

theorem State.untick_setPulse (c us : Nat) : (s.setPulse c us).untick = s.untick.setPulse c us := by
  rcases Nat.lt_or_ge 15 c with hc | hc
  · rw [s.setPulse_badChannel us hc, s.untick.setPulse_badChannel us hc]
    rfl
  obtain ⟨k, rfl⟩ : ∃ k : Fin 16, k.val = c := ⟨⟨c, Nat.lt_succ_of_le hc⟩, rfl⟩
  by_cases hf : s.freq = 0
  · rw [s.setPulse_skipped k us hf, s.untick.setPulse_skipped k us hf]
    rfl
  · rw [s.setPulse_of_freq k us hf, s.untick.setPulse_of_freq k us hf, PulseResult.untick,
      State.untick_storeDutyIf, State.untick_busWrite]
    rfl

theorem PulseResult.untick_finish (r : PulseResult) : r.finish.untick = r.untick.finish :=
  State.untick_ite (State.untick_respond _ _ _) (State.untick_respond _ _ _)

theorem State.untick_pwmset (c us : Nat) : (s.pwmset c us).untick = s.untick.pwmset c us := by
  rw [State.pwmset, PulseResult.untick_finish, s.untick_setPulse, State.pwmset]

theorem State.untick_pwmsetr (f : Nat) : (s.pwmsetr f).untick = s.untick.pwmsetr f := by
  unfold State.pwmsetr
  split
  · exact s.untick_respond _ _
  · exact State.untick_ite (s.untick_pwmset _ _) (s.untick_respond _ _)

/-! ### APPLY (45_pipeline.md R241) -/

/-- Stage 2 of APPLY with the ticks left out of its state. -/
def ApplyProgress.untick (a : ApplyProgress) : ApplyProgress := { a with state := a.state.untick }

theorem ApplyProgress.untick_finger (a : ApplyProgress) (f : Fin 5) :
    (a.finger f).untick = a.untick.finger f := by
  have hset : (a.untick.state.storePulse f (BitVec.ofNat 16 (a.untick.state.fingerPulse f))).setPulse
      a.untick.state.cfg.servoCh[f] (a.untick.state.fingerPulse f) = _ :=
    ((a.state.storePulse f (BitVec.ofNat 16 (a.state.fingerPulse f))).untick_setPulse
      a.state.cfg.servoCh[f] (a.state.fingerPulse f)).symm
  unfold ApplyProgress.finger
  dsimp only
  rw [← State.fingerPulse, ← State.fingerPulse, hset]
  rfl

theorem State.untick_applyFingers : s.applyFingers.untick = s.untick.applyFingers :=
  (List.foldl_hom ApplyProgress.untick (init := ⟨0, false, s⟩) fun a f => (a.untick_finger f).symm).symm

theorem ApplyProgress.untick_finish (a : ApplyProgress) : a.finish.untick = a.untick.finish :=
  State.untick_ite (State.untick_respond _ _ _)
    (State.untick_ite (State.untick_respond _ _ _) (State.untick_respond _ _ _))

theorem State.untick_apply : s.apply.untick = s.untick.apply := by
  unfold State.apply
  rw [s.rxVerdict_untick]
  split
  · exact s.untick_respond _ _
  · rw [ApplyProgress.untick_finish, State.untick_applyFingers]
    rfl

end

/-! ### Every command (R253, R262) -/

section
variable {i : Instr} {s t : State}

/-- Every command but TACK and RDREG of TICK does the same without the ticks. -/
theorem exec_untick (htack : i ≠ .tack) (htick : i ≠ .rdreg 0x09) (hexec : exec i s = .next t) :
    exec i s.untick = .next t.untick := by
  cases i <;> injection hexec with hexec <;> subst hexec
  case tack => exact absurd rfl htack
  case nop => exact congrArg Host.Outcome.next (s.untick_respond _ _).symm
  case rdreg a => exact congrArg Host.Outcome.next (s.untick_rdreg fun ha => htick (congrArg _ ha)).symm
  case wrreg a imm => exact congrArg Host.Outcome.next (s.untick_wrreg a imm).symm
  case rxwr a b => exact congrArg Host.Outcome.next (s.untick_rxwr a b).symm
  case txrd a => exact congrArg Host.Outcome.next (s.untick_txrd a).symm
  case acq => exact congrArg Host.Outcome.next s.untick_acq.symm
  case enc w q => exact congrArg Host.Outcome.next (s.untick_enc w q).symm
  case dec => exact congrArg Host.Outcome.next s.untick_dec.symm
  case mapv f => exact congrArg Host.Outcome.next (s.untick_mapv f).symm
  case mapi f v => exact congrArg Host.Outcome.next (s.untick_mapi f v).symm
  case pwminit hz => exact congrArg Host.Outcome.next (s.untick_pwminit hz).symm
  case pwmset c us => exact congrArg Host.Outcome.next (s.untick_pwmset c us).symm
  case pwmsetr f => exact congrArg Host.Outcome.next (s.untick_pwmsetr f).symm
  case apply => exact congrArg Host.Outcome.next s.untick_apply.symm

end

/-- RDREG of TICK always answers. -/
theorem State.rdreg_tick (s : State) : s.rdreg 0x09 = s.respond .ok (s.regValue .tick) := s.rdreg_index .tick

/-- Settles O21: the two starts are one state without the ticks, so the two ends are. -/
theorem ticksChangeNoCommand : Obligations.TicksChangeNoCommand := by
  refine ⟨fun i s tk ticks htack htick => ?_, fun i s hi => ?_⟩
  · obtain ⟨t, hexec, -⟩ := exec_answers i s
    obtain ⟨t', hexec', -⟩ := exec_answers i { s with tick := tk, env := { s.env with ticks := ticks } }
    have hend := exec_untick htack htick hexec
    have hend' := exec_untick htack htick hexec'
    rw [State.untick_of_ticks, hend] at hend'
    have hsame : t'.untick = t.untick := (Host.Outcome.next.inj hend').symm
    refine ⟨t, t', hexec, hexec', ?_, ?_⟩
    · rw [← t'.still_untick, hsame, t.still_untick]
    · rw [← t'.trace_untick, hsame, t.trace_untick]
  · obtain rfl | rfl := hi
    · exact ⟨s.tack, _, rfl, State.response_respond _ _ _⟩
    · exact ⟨s.rdreg 0x09, _, rfl, by rw [s.rdreg_tick]; exact s.response_respond _ _⟩

end Sys2Proof.Machine
end

section
/-! PROOFS. The statements of 70_reset_and_hazards.md: `rst` between two commands (R280) and in the middle of
one (R281). The events of a command, ticks among them, are added to those before it, and its response is the
last. -/

namespace Sys2Proof.Machine

variable {i : Instr} {s t u : State}

/-! ### Every command keeps the events before it, ticks among them (log 9) -/

/-- From `s` to `t` events and ticks were added, and none was taken away. -/
def TraceKept (s t : State) : Prop := s.env.trace <+: t.env.trace

theorem TraceKept.of_env (h : t.env = s.env) : TraceKept s t := by
  rw [TraceKept, h]

theorem TraceKept.trans (h : TraceKept s t) (h' : TraceKept t u) : TraceKept s u := List.IsPrefix.trans h h'

theorem TraceKept.of_grows {evs : List Event} (h : Grows s t evs) : TraceKept s t := by
  obtain ⟨new, htrace, -⟩ := h.trace
  exact ⟨new, htrace.symm⟩

theorem TraceKept.respond {st : Status} {d : Word16} (h : TraceKept s u) : TraceKept s (u.respond st d) :=
  h.trans (.of_grows (t := u.emit (.rsp st d)) (Grows.emit u rfl rfl rfl))

/-- A command that writes registers alone, or nothing, before its response. -/
theorem TraceKept.registers {st : Status} {d : Word16} (h : u.env = s.env) : TraceKept s (u.respond st d) :=
  .respond (.of_env h)

/-- A loop keeps the trace if each of its turns does; `proj` is the state in what the loop carries. -/
theorem TraceKept.foldl {α β : Type} (proj : β → State) (f : β → α → β)
    (hf : ∀ b a, TraceKept (proj b) (proj (f b a))) (l : List α) (b : β) :
    TraceKept (proj b) (proj (l.foldl f b)) :=
  List.foldlRecOn l f (motive := fun c => TraceKept (proj b) (proj c)) (.of_env rfl)
    fun c hc a _ => hc.trans (hf c a)

theorem TraceKept.rdreg (a : Nat) (s : State) : TraceKept s (s.rdreg a) := by
  unfold State.rdreg
  split
  · exact .registers rfl
  · split <;> exact .registers rfl

theorem TraceKept.wrreg (a imm : Nat) (s : State) : TraceKept s (s.wrreg a imm) := by
  unfold State.wrreg
  split
  · exact .registers rfl
  · next r _ =>
    split
    · exact .registers rfl
    · split
      · exact .registers rfl
      · exact .registers (s.writeReg_env r imm)

theorem TraceKept.acq (s : State) : TraceKept s s.acq :=
  .respond (.foldl id _ (fun s ch => .of_grows (Grows.acqChannel _ _ _ s ch)) _ s)

theorem TraceKept.mapv (f : Nat) (s : State) : TraceKept s (s.mapv f) := by
  unfold State.mapv
  split
  · exact .registers rfl
  · split <;> exact .registers rfl

/-- The bus steps of PWMINIT are made up to the first that fails (44_pwm.md R207). -/
theorem TraceKept.initSteps (p : Byte) (s : State) : TraceKept s (s.initSteps p).2 := by
  rw [State.initSteps_eq]
  split
  · next n hfail =>
    have hn := List.mem_range.1 (List.mem_of_find?_eq_some hfail)
    exact .of_grows (Grows.afterInit p s hn)
  · exact .of_grows (Grows.afterInit p s le_rfl)

theorem TraceKept.pwminit (hz : Nat) (s : State) : TraceKept s (s.pwminit hz) := by
  have hsteps := TraceKept.initSteps (prescaleByte s.cfg hz) s
  unfold State.pwminit
  split
  · exact .registers rfl
  · split
    · exact .registers rfl
    · dsimp only
      split <;> next hrun =>
        rw [hrun] at hsteps
        exact .respond (hsteps.trans (.of_env rfl))

/-- `set_pulse` sends at most a burst (44_pwm.md R215). -/
theorem TraceKept.setPulse (c us : Nat) (s : State) : TraceKept s (s.setPulse c us).state := by
  unfold State.setPulse
  split
  · exact .of_env rfl
  · next k _ =>
    split
    · exact .of_env rfl
    · have hburst : TraceKept s (s.busWrite (channelReg s.cfg k) (burstBytes (s.offOf us))).2 :=
        .of_grows (Grows.busWrite s _ _)
      dsimp only
      split <;> next hw =>
        rw [hw] at hburst
        exact hburst.trans (.of_env rfl)

theorem TraceKept.pulseFinish {r : PulseResult} (h : TraceKept s r.state) : TraceKept s r.finish := by
  unfold PulseResult.finish
  split <;> exact .respond h

theorem TraceKept.pwmsetr (f : Nat) (s : State) : TraceKept s (s.pwmsetr f) := by
  unfold State.pwmsetr
  split
  · exact .registers rfl
  · split
    · exact .pulseFinish (.setPulse _ _ s)
    · exact .registers rfl

theorem TraceKept.finger (a : ApplyProgress) (f : Fin 5) : TraceKept a.state (a.finger f).state :=
  (TraceKept.of_env rfl).trans (.setPulse _ _ (a.state.storePulse f _))

theorem TraceKept.applyFingers (s : State) : TraceKept s s.applyFingers.state :=
  .foldl ApplyProgress.state ApplyProgress.finger .finger _ ⟨0, false, s⟩

theorem TraceKept.apply (s : State) : TraceKept s s.apply := by
  unfold State.apply
  split
  · exact .registers rfl
  · next hasSeq q v _ =>
    obtain ⟨st, d, hfinish⟩ := (s.storeFrame hasSeq q v).applyFingers.finish_eq_respond
    have hfingers : TraceKept s (s.storeFrame hasSeq q v).applyFingers.state :=
      (TraceKept.of_env rfl).trans (.applyFingers (s.storeFrame hasSeq q v))
    rw [hfinish]
    exact hfingers.respond

/-- No command takes an event or a tick out of the trace. -/
theorem exec_traceKept (h : exec i s = .next t) : TraceKept s t := by
  cases i <;> injection h with h <;> subst h
  case nop => exact .registers rfl
  case rdreg a => exact .rdreg a s
  case wrreg a imm => exact .wrreg a imm s
  case rxwr a b =>
    unfold State.rxwr
    split <;> exact .registers rfl
  case txrd a =>
    unfold State.txrd
    split <;> exact .registers rfl
  case tack => exact .registers rfl
  case acq => exact .acq s
  case enc w q =>
    unfold State.enc
    split <;> exact .registers rfl
  case dec =>
    unfold State.dec
    split <;> exact .registers rfl
  case mapv f => exact .mapv f s
  case mapi f v =>
    unfold State.mapi
    split <;> exact .registers rfl
  case pwminit hz => exact .pwminit hz s
  case pwmset c us => exact .pulseFinish (.setPulse c us s)
  case pwmsetr f => exact .pwmsetr f s
  case apply => exact .apply s

/-! ### The response is the last event (R84) -/

/-- A tick is no response, so a trace gives none if its events of commands give none. -/
theorem all_not_isRsp_of_filter {l : List Event}
    (h : (l.filter (fun e => !e.isTick)).all (fun e => !e.isRsp) = true) :
    l.all (fun e => !e.isRsp) = true := by
  rw [List.all_eq_true] at h ⊢
  intro e he
  cases e with
  | tick => rfl
  | _ => exact h _ (List.mem_filter.2 ⟨he, rfl⟩)

/-- From `s` to `t` the trace grew by events that are no response, ticks among them, and then by one response. -/
def EndsInResponse (s t : State) : Prop :=
  ∃ body st d, t.env.trace = s.env.trace ++ body ++ [.rsp st d] ∧ body.all (fun e => !e.isRsp) = true

/-- Of the events of commands it is known (`Answers`); the ticks among them are no responses. -/
theorem EndsInResponse.of_answers (hans : Answers s t) (hkept : TraceKept s t) : EndsInResponse s t := by
  obtain ⟨u, st, d, ⟨evs, hevents, hquiet⟩, rfl⟩ := hans
  have hticks : (u.env.trace ++ List.replicate u.env.ticksNow Event.tick).filter (fun e => !e.isTick) =
      s.events ++ evs := by
    rw [List.filter_append, List.filter_replicate_of_neg (by decide), List.append_nil]
    exact hevents
  obtain hall | ⟨body, hbody⟩ := List.prefix_concat_iff.1 hkept
  · have hsame : s.events = (u.respond st d).events := congrArg (List.filter fun e : Event => !e.isTick) hall
    rw [(Leaves.respond u st d).events, hevents] at hsame
    simp at hsame
  · refine ⟨body, st, d, congrArg (· ++ [Event.rsp st d]) hbody.symm, all_not_isRsp_of_filter ?_⟩
    rw [← hbody, List.filter_append] at hticks
    rwa [List.append_cancel_left hticks]

/-- An accepted word gives one response, at its end, be it a command or illegal (R83, R84). -/
theorem runWord_endsInResponse {w : CmdWord} (h : runWord w s = .next t) : EndsInResponse s t := by
  obtain ⟨i, -, hexec⟩ | rfl := runWord_cases h
  · obtain ⟨t', hexec', hans⟩ := exec_answers i s
    obtain rfl := Host.Outcome.next.inj (hexec'.symm.trans hexec)
    exact .of_answers hans (exec_traceKept hexec)
  · exact .of_answers (.registers rfl) (.registers rfl)

/-! ### Reset -/

theorem State.still_rst (evs : List Event) (s : State) :
    (s.rst evs).still = (State.resetWith s.cfg Env.silent).still := rfl

theorem State.trace_rst (evs : List Event) (s : State) : (s.rst evs).env.trace = s.env.trace ++ evs := rfl

/-- Settles O10: the reset state is built from the configuration and the outside world alone. -/
theorem resetFromEveryState : Obligations.ResetFromEveryState := by
  intro s rest hin
  have hevents : ((s.takeInput rest).rst []).events = s.events := by
    rw [State.events, State.trace_rst, List.append_nil]
    rfl
  exact ⟨(s.takeInput rest).rst [], by rw [step, hin], (s.takeInput rest).still_rst [], rfl, rfl, hevents, rfl⟩

/-- Up to `n` of the events before the response are what a cut leaves of a command. -/
theorem cutEvents_eq_take {body : List Event} {st : Status} {d : Word16} (n : Nat)
    (h : t.env.trace = s.env.trace ++ body ++ [.rsp st d]) : cutEvents n s t = body.take n := by
  rw [cutEvents, h, List.append_assoc, List.drop_left, List.dropLast_concat]

/-- Settles O11: the events before the response are cut in two, and the response falls in the second part. -/
theorem resetAbandonsCommand : Obligations.ResetAbandonsCommand := by
  intro s u w n rest hbusy hin hrun
  obtain ⟨body, st, d, htrace, hquiet⟩ := runWord_endsInResponse hrun
  have hcut := cutEvents_eq_take n htrace
  have hstep : step s = .next ((s.accept rest).rst (body.take n)) := by
    simp [step, hin, hbusy, runCut, hrun, hcut]
  refine ⟨_, body.take n, body.drop n ++ [.rsp st d], hstep, (s.accept rest).still_rst _, rfl, rfl, rfl, rfl,
    ?_, by simp, List.length_take_le n body, ?_⟩
  · rw [htrace, ← List.append_assoc, List.append_assoc s.env.trace, List.take_append_drop]
    rfl
  · exact List.all_eq_true.2 fun e he => List.all_eq_true.1 hquiet e (List.mem_of_mem_take he)

end Sys2Proof.Machine
end
